-- ==== Sys2Proof/Word.lean ====
section
/-! DEFINITION. The words of the J40's two data paths: bytes, 24-bit array addresses, 16-bit tags and
frame ids, and the 4-byte cell that both buses move one beat at a time (00_scope.md, sections 4 and 5). -/

namespace Sys2Proof

/-- One byte. -/
abbrev Byte := BitVec 8

/-- A 24-bit byte address in the array (00_scope.md, Addresses). -/
abbrev Addr := BitVec 24

/-- A 16-bit tag, frame id, age or refusal number. -/
abbrev Word16 := BitVec 16

/-- A cell's four bytes in order of address, lowest first (00_scope.md, Byte order). -/
structure Cell where
  b0 : Byte
  b1 : Byte
  b2 : Byte
  b3 : Byte
  deriving DecidableEq, Repr

/-- The cell of four zero bytes. -/
def Cell.zero : Cell := ⟨0, 0, 0, 0⟩

/-- The beats of one bus transaction. A transaction of n cells uses the first n of the eight (R160). -/
abbrev Beats := Vector Cell 8

/-- Eight zero beats. -/
def Beats.zero : Beats := Vector.replicate 8 Cell.zero

end Sys2Proof
end

