-- ==== Sys2Proof/Syntax.lean ====
section
/-! DEFINITION. The commands of the J40: one constructor of `Instr` per row of spec/opcode_table.json,
with the operands that the outside world gives the part with that command, and the types of those
operands. -/

namespace Sys2Proof

/-- READ or WRITE, on the host bus, the memory bus or the two-wire bus. -/
inductive Dir where
  | read | write
  deriving DecidableEq, Repr

/-- A transaction length of 1, 2, 4 or 8 cells (R110, R160). -/
inductive Len where
  | one | two | four | eight
  deriving DecidableEq, Repr

/-- The change of level of an input line: RISING is low to high, FALLING high to low (R129). -/
inductive Edge where
  | rising | falling
  deriving DecidableEq, Repr

/-- The three strobe lines (R129). -/
inductive StrobeLine where
  | mark | keep | undo
  deriving DecidableEq, Repr

/-- The strap pins as they stand when a POR or RSTN ends (R92). -/
structure Straps where
  /-- PL[2:0], placement. -/
  pl : BitVec 3
  /-- RP[1:0], recovery policy. -/
  rp : BitVec 2
  /-- SA[1:0], Service Port address. -/
  sa : BitVec 2
  deriving DecidableEq, Repr

/-- A host transaction as its fields stand on the bus (R110). -/
structure HostTxn where
  addr : Addr
  dir : Dir
  len : Len
  /-- Byte enables, the lowest address at bit 0; meaningful for single-cell writes. -/
  be : BitVec 4
  data : Beats
  deriving DecidableEq, Repr

/-- The memory's answer to an outstanding read: DONE with the cells on MRDATA (R165), or MERR (R166). -/
inductive ReadEnding where
  | done (cells : Beats)
  | error
  deriving DecidableEq, Repr

/-- The memory's answer to an outstanding write: DONE (R165) or MERR (R166). -/
inductive WriteEnding where
  | done
  | error
  deriving DecidableEq, Repr

/-- The events that are handled when a wake from DORMANT ends (R109): the host transaction, the wake
list's strobe arrivals, the wake fault and the Service Port transaction. -/
inductive WakeEvent where
  | host | strobes | fault | service
  deriving DecidableEq, Repr

/-- The commands and events of the J40, in the order of spec/opcode_table.json. -/
inductive Instr where
  /-- POR: the supply comes up (R93). -/
  | por
  /-- RSTN: the RSTN pin goes low (R93). -/
  | rstn
  /-- RESET_END: the reset ends and the straps are sampled (R92). -/
  | resetEnd (straps : Straps)
  /-- SETTLE_END: 32 µs after a reset the bus becomes FREE (R171). -/
  | settleEnd
  /-- HOST_REQUEST: the host asserts HREQ with its fields (R110). -/
  | hostRequest (txn : HostTxn)
  /-- WAKE_END: the wake ends; `order` says which of the held events is first (R109). -/
  | wakeEnd (order : List WakeEvent)
  /-- GATE_ENTRY: the JOURNALED write waiting in GATE enters service (R120). -/
  | gateEntry
  /-- PRE_IMAGE_READ_END (R35). -/
  | preImageReadEnd (e : ReadEnding)
  /-- APPEND_END (R36). -/
  | appendEnd (e : WriteEnding)
  /-- CAPTURE_WRITE_END (R37). -/
  | captureWriteEnd (e : WriteEnding)
  /-- PASS_THROUGH_END (R121); the cells of a DONE are those of a read. -/
  | passThroughEnd (e : ReadEnding)
  /-- ARBITER_GRANT (R163). -/
  | arbiterGrant
  /-- MEMORY_WATCH_TIMEOUT (R167). -/
  | memoryWatchTimeout
  /-- DRAIN_END (R168). -/
  | drainEnd
  /-- LATE_RESPONSE: DONE or MERR with no transaction outstanding (R168). -/
  | lateResponse
  /-- STROBE_EDGE: an edge of a strobe line is seen (R129, R130). -/
  | strobeEdge (line : StrobeLine) (edge : Edge)
  /-- FAULT_EVENT: an edge of the FAULT line is seen (R139, R140). -/
  | faultEvent (edge : Edge)
  /-- FAULT_REQUEST_ACTED (R10). -/
  | faultRequestActed
  /-- COMMAND_TAKE (R7). -/
  | commandTake
  /-- HEADER_HALF_WRITE_END (R61). -/
  | headerHalfWriteEnd (e : WriteEnding)
  /-- REPLAY_SLOT_READ_END (R74). -/
  | replaySlotReadEnd (e : ReadEnding)
  /-- RESTORE_END (R74). -/
  | restoreEnd (e : WriteEnding)
  /-- WIPE_SLOT_WRITE_END (R68). -/
  | wipeSlotWriteEnd (e : WriteEnding)
  /-- SCAN_HEADER_READ_END (R95). -/
  | scanHeaderReadEnd (e : ReadEnding)
  /-- SCAN_SLOT_READ_END (R97). -/
  | scanSlotReadEnd (e : ReadEnding)
  /-- SLOT_LOAD_END (R193). -/
  | slotLoadEnd (e : ReadEnding)
  /-- TICK (R150). -/
  | tick
  /-- CMD_MARK: the data byte `$01` reaches CMD (R135). -/
  | cmdMark
  /-- CMD_KEEP: the data byte `$02` reaches CMD (R135). -/
  | cmdKeep
  /-- CMD_UNDO: the data byte `$03` reaches CMD (R135). -/
  | cmdUndo
  /-- CMD_UNDO_ALL: the data byte `$04` reaches CMD (R135). -/
  | cmdUndoAll
  /-- CMD_UNDO_TO: the data byte `$05` reaches CMD (R135). -/
  | cmdUndoTo
  /-- RESUME: the data byte `$10` reaches CMD (R87). -/
  | resume
  /-- SKIP: the data byte `$11` reaches CMD (R87). -/
  | skip
  /-- ABANDON: the data byte `$12` reaches CMD (R88). -/
  | abandon
  /-- SYNC: the data byte `$13` reaches CMD (R66). -/
  | sync
  /-- FORMAT: the data byte `$14` reaches CMD (R67). -/
  | format
  /-- QUIESCE: the data byte `$15` reaches CMD (R107). -/
  | quiesce
  /-- RESTART: the data byte `$16` reaches CMD (R94). -/
  | restart
  /-- RESTART_EFFECT: the pending restart takes effect (R94). -/
  | restartEffect
  /-- FLUSH: the data byte `$17` reaches CMD (R137). -/
  | flush
  /-- CLEAR_COUNTS: the data byte `$18` reaches CMD (R182). -/
  | clearCounts
  /-- POP_REFUSAL: the data byte `$19` reaches CMD (R126). -/
  | popRefusal
  /-- UNKNOWN_COMMAND: a data byte that names no command reaches CMD (R190). -/
  | unknownCommand (code : Byte)
  /-- SVC_ADDRESS_MATCH: an address byte follows a START or repeated START (R184). -/
  | svcAddressMatch (addr : BitVec 7) (dir : Dir)
  /-- SVC_INDEX_BYTE: the first byte of a write segment (R185). -/
  | svcIndexByte (index : Byte)
  /-- SVC_STOP: the STOP condition (R187). -/
  | svcStop
  /-- PAGE_WRITE: a data byte reaches PAGE (R186). -/
  | pageWrite (data : Byte)
  /-- HIGHWATER_WRITE: a data byte reaches HIGHWATER (R58). -/
  | highwaterWrite (data : Byte)
  /-- STROBECFG_WRITE: a data byte reaches STROBECFG (R147). -/
  | strobecfgWrite (data : Byte)
  /-- STROBETAG_WRITE: a data byte reaches STROBETAG (R131). -/
  | strobetagWrite (data : Byte)
  /-- TICKSEL_WRITE: a data byte reaches TICKSEL (R149). -/
  | tickselWrite (data : Byte)
  /-- TIMERCFG_WRITE: a data byte reaches TIMERCFG (R156). -/
  | timercfgWrite (data : Byte)
  /-- WARNAT_WRITE: a data byte reaches WARNAT (R156). -/
  | warnatWrite (data : Byte)
  /-- EXPIREAT_WRITE: a data byte reaches EXPIREAT (R156). -/
  | expireatWrite (data : Byte)
  /-- MEMWATCH_WRITE: a data byte reaches MEMWATCH (R170). -/
  | memwatchWrite (data : Byte)
  /-- REGIDX_WRITE: a data byte reaches REGIDX (R191). -/
  | regidxWrite (data : Byte)
  /-- REGION_STAGING_WRITE: a data byte reaches REGCLASS, REGBASE or REGLIMIT (R191). -/
  | regionStagingWrite (data : Byte)
  /-- REGCOMMIT: a data byte reaches REGCOMMIT (R116). -/
  | regcommit (data : Byte)
  /-- SLOTIDX_WRITE: a data byte reaches SLOTIDX (R192). -/
  | slotidxWrite (data : Byte)
  /-- SLOTLOAD: a data byte reaches SLOTLOAD (R192). -/
  | slotload (data : Byte)
  /-- FRAMEIDX_WRITE: a data byte reaches FRAMEIDX (R195). -/
  | frameidxWrite (data : Byte)
  /-- FLAGS_WRITE: a data byte reaches FLAGS (R176). -/
  | flagsWrite (data : Byte)
  /-- MASKS_WRITE: a data byte reaches MASKS (R177). -/
  | masksWrite (data : Byte)
  /-- CTRSEL_WRITE: a data byte reaches CTRSEL (R181). -/
  | ctrselWrite (data : Byte)
  /-- REGISTER_WRITE: a data byte of a write segment, whatever stands at the register index (R187). -/
  | registerWrite (data : Byte)
  /-- READ_SEGMENT_BYTE: the controller clocks a byte of a read segment and acknowledges it or not (R185). -/
  | readSegmentByte (ack : Bool)
  deriving DecidableEq, Repr

end Sys2Proof
end

