-- ==== Sys2Proof/Config.lean ====
section
/-! DEFINITION. The fixed sizes of the J40: queue, stack, set and list capacities, the serial range and
the counts of REFCLK periods that the manual states as numbers. The J40 has no value that the manual
leaves to an implementation, so this file holds no opaque constant. -/

namespace Sys2Proof.Config

/-- The command queue holds at most 4 entries (R132). -/
@[simp] def queueCapacity : Nat := 4

/-- Depth lies between 0 and 8 (R3). -/
@[simp] def maxDepth : Nat := 8

/-- The capture set holds at most 1024 entries (R27). -/
@[simp] def captureSetCapacity : Nat := 1024

/-- The refusal list holds at most 8 entries (R125). -/
@[simp] def refusalListCapacity : Nat := 8

/-- The refusal overflow count saturates at 255 (R125). -/
@[simp] def overflowLimit : Nat := 255

/-- The wake list holds at most 8 entries (R146). -/
@[simp] def wakeListCapacity : Nat := 8

/-- The highest append serial, `$FFFF_FFFF_FFFF` (R54). -/
@[simp] def lastSerial : Nat := 281474976710655

/-- The spent value of the next serial, `$1_0000_0000_0000` (R54). -/
@[simp] def spentSerial : Nat := 281474976710656

/-- SETTLE ends when the watch count reaches 32 (R171). -/
@[simp] def settleLimit : Nat := 32

/-- REFCLK periods to the microsecond (R149, R167). -/
@[simp] def periodsPerMicrosecond : Nat := 8

/-- The wake takes 10 µs (R109), which is 80 REFCLK periods at the nominal 8 MHz. -/
@[simp] def wakePeriods : Nat := 80

/-- ID reads `$4A` (R200). -/
@[simp] def idValue : Byte := 0x4A

/-- REV reads `$01` (R200). -/
@[simp] def revValue : Byte := 0x01

end Sys2Proof.Config
end

