-- ==== Sys2Proof/Machine/State.lean ====
section
/-! DEFINITION. The state of the J40 as plain data: one structure per block of 00_scope.md section 3,
each holding the state its chapter's table gives it, the machine after reset, and the reasons a step
could stop. Fields that the spec implies but no table names are marked in their docstrings. -/

namespace Sys2Proof.Machine

/-! ## Checkpoint Controller (chapter 1) -/

/-- The twelve controller states (R1). -/
inductive CtrlState where
  | scan | recover | unformatted | await | ready | enter | merge | replay | halted | wipe | dormant | bypass
  deriving DecidableEq, Repr

/-- Where a frame came from (R4). -/
inductive Origin where
  | strobe | service | recovered
  deriving DecidableEq, Repr

/-- The record of one open level (R4). -/
structure Frame where
  level : Nat
  start : Nat
  tag : Word16
  id : Word16
  origin : Origin
  age : Word16
  warned : Bool
  expired : Bool
  broken : Bool
  deriving DecidableEq, Repr

/-- The three sources of a queue entry (R132). -/
inductive QueueSource where
  | strobe | service | timer
  deriving DecidableEq, Repr

/-- The kind of a queue entry, with the tag that only a MARK has and the frame id that only an UNDO_TO
has (R132). -/
inductive QueueKind where
  | mark (tag : Word16)
  | keep
  | undo
  | undoAll
  | undoTo (id : Word16)
  deriving DecidableEq, Repr

/-- One entry of the command queue (R132). -/
structure QueueEntry where
  source : QueueSource
  kind : QueueKind
  deriving DecidableEq, Repr

/-- The source field of the last outcome record and of the Replay Engine (R23). -/
inductive Source where
  | none | strobe | service | timer | fault | start
  deriving DecidableEq, Repr

/-- The kind field of the last outcome record (R23). -/
inductive CmdKind where
  | none | mark | keep | undo | undoAll | undoTo
  deriving DecidableEq, Repr

/-- The outcomes of a command (R22), and NONE (R23). -/
inductive CmdOutcome where
  | none | done | donePartial | noLevel | depthLimit | stale | headerFailed | abandoned | unformatted | bypassed
  deriving DecidableEq, Repr

/-- The command in service: a queue entry taken, or the undo that the fault request demanded (R10), with
the target depth it selected when it was taken (R19; 0 for MARK and KEEP, which select none). -/
structure InService where
  source : Source
  kind : QueueKind
  target : Nat
  deriving DecidableEq, Repr

/-- The last outcome record (R23). -/
structure LastOutcome where
  source : Source
  kind : CmdKind
  tag : Word16
  frameId : Word16
  outcome : CmdOutcome
  deriving DecidableEq, Repr

/-- The Checkpoint Controller (section 1.1), with the start-up in progress condition (section 5.1), the
pending restart (R94) and the wake in progress (R109). Depth is the number of frames (R3). -/
structure Ckc where
  state : CtrlState
  /-- Level 1 first. -/
  frames : List Frame
  /-- Oldest entry first. -/
  queue : List QueueEntry
  inService : Option InService
  faultRequest : Bool
  /-- A JOURNALED write holds the level gate (R8). -/
  gateHeld : Bool
  nextFrameId : Word16
  last : LastOutcome
  startUp : Bool
  restartPending : Bool
  waking : Bool
  /-- REFCLK periods of the wake's 10 µs that have passed; implied by R109. -/
  wakeCount : Nat
  deriving DecidableEq, Repr

/-! ## Capture Engine (chapter 2) -/

/-- One entry of the capture set (R27). -/
structure CaptureEntry where
  cell : Addr
  level : Nat
  deriving DecidableEq, Repr

/-- The full policy of a region (R114). -/
inductive FullPolicy where
  | refuse | breach
  deriving DecidableEq, Repr

/-- The steps of a capture (section 2.3). CHECK and FINISH pass inside one step of the model. -/
inductive CaptureStep where
  | check | read | append | write | finish
  deriving DecidableEq, Repr

/-- The capture in progress (section 2.1). -/
structure Capture where
  write : HostTxn
  level : Nat
  policy : FullPolicy
  step : CaptureStep
  /-- The cells that need capture, ascending. -/
  list : List Addr
  reserved : Nat
  /-- One per cell of the capture list, in its order. -/
  preImages : List Cell
  appended : Nat
  breach : Bool
  deriving DecidableEq, Repr

/-- The Capture Engine. -/
structure Cpe where
  captureSet : List CaptureEntry
  capture : Option Capture
  deriving DecidableEq, Repr

/-! ## Journal Manager (chapter 3) -/

/-- The two header copies (R50). -/
inductive Copy where
  | a | b
  deriving DecidableEq, Repr

/-- The states of a header copy (R59). -/
inductive HeaderState where
  | clean | opened | replaying | wiping
  deriving DecidableEq, Repr

/-- A header's entry for one level (R59). -/
structure LevelEntry where
  start : Nat
  tag : Word16
  deriving DecidableEq, Repr

/-- What the requester of a header write gives (R61). Level entries above the list are zero. -/
structure HeaderFields where
  state : HeaderState
  depth : Nat
  target : Nat
  /-- Bit L − 1 for level L. -/
  broken : BitVec 8
  top : Nat
  entries : List LevelEntry
  deriving DecidableEq, Repr

/-- A whole header copy less its marker, padding and check (R59). `serial` is the stored field. -/
structure Header where
  generation : BitVec 32
  fields : HeaderFields
  serial : Nat
  deriving DecidableEq, Repr

/-- What a header write is for (R64). -/
inductive HeaderPurpose where
  | markOpening | keepHeader | undoOpening | retarget | closing | abandon | sync | wipeOpening | wipeClosing
  deriving DecidableEq, Repr

/-- The header write in flight, its contents fixed when its first half was issued (R61). -/
structure HeaderWrite where
  purpose : HeaderPurpose
  copy : Copy
  contents : Header
  /-- The second half has been issued. -/
  second : Bool
  deriving DecidableEq, Repr

/-- A header write asked for while another is in flight (R64). -/
structure HeaderRequest where
  purpose : HeaderPurpose
  fields : HeaderFields
  deriving DecidableEq, Repr

/-- The progress of SCAN, implied by R95 and R97: the header reads completed with the bytes they gave,
or the slot index examined with the header selected and the serial of the last slot accepted. -/
inductive Scan where
  | idle
  | headers (completed : Nat) (bytes : List Byte)
  | slots (index : Nat) (last : Option Nat) (header : Header)
  deriving DecidableEq, Repr

/-- A mark on each of the two header copies. -/
structure CopyMarks where
  a : Bool
  b : Bool
  deriving DecidableEq, Repr

/-- The Journal Manager (section 3.1). Placement and capacity follow from the straps (R49). `failedCopies` marks the
copies that a failed write has reached, which R61 takes as not valid whatever memory holds; how long a mark lasts is
the model's inference (log 34). -/
structure Jmg where
  top : Nat
  nextSerial : Nat
  highWater : Nat
  generation : BitVec 32
  current : Option Copy
  headerWrite : Option HeaderWrite
  headerWaiting : Option HeaderRequest
  headerStale : Bool
  wipeCursor : Nat
  scan : Scan
  failedCopies : CopyMarks
  deriving DecidableEq, Repr

/-! ## Replay Engine (chapter 4) -/

/-- What the Replay Engine is doing (section 4.1). -/
inductive RpeStep where
  | idle | opening | read | restore | retarget | closing | halted | abandoning
  deriving DecidableEq, Repr

/-- Why the replay stopped (section 4.1). -/
inductive HaltReason where
  | none | corruptSlot | memory
  deriving DecidableEq, Repr

/-- What stopped the replay (section 4.1). -/
inductive HaltItem where
  | none | slot | header
  deriving DecidableEq, Repr

/-- The fields of a record that the blocks use (R51). -/
structure Record where
  cell : Addr
  preImage : Cell
  serial : Nat
  deriving DecidableEq, Repr

/-- The Replay Engine (section 4.1). -/
structure Rpe where
  step : RpeStep
  target : Nat
  cursor : Nat
  serialBound : Nat
  record : Option Record
  retargetPending : Bool
  partialUndo : Bool
  haltReason : HaltReason
  haltItem : HaltItem
  source : Source
  /-- A SKIP that waits for its retarget header; implied by R87. -/
  skipOwed : Bool
  /-- The stop was that of a start-up replay's opening header; implied by R87. -/
  openingOwed : Bool
  deriving DecidableEq, Repr

/-! ## Host Bus Port (chapter 6) -/

/-- The classes of a region (R114). -/
inductive RegionClass where
  | pass | journaled | steady | barred
  deriving DecidableEq, Repr

/-- One descriptor of the region table (R114). `limit` is exclusive and may be the array size. -/
structure Region where
  valid : Bool
  base : Addr
  limit : BitVec 25
  cls : RegionClass
  policy : FullPolicy
  deriving DecidableEq, Repr

/-- Where the current transaction stands (R110). -/
inductive Disposition where
  | untaken | held | gate | service | capture
  deriving DecidableEq, Repr

/-- The current transaction. Class and policy are fixed when it is taken (R115); before that they are
PASS and REFUSE here and no rule reads them. -/
structure Current where
  txn : HostTxn
  disposition : Disposition
  cls : RegionClass
  policy : FullPolicy
  deriving DecidableEq, Repr

/-- The reasons of a refusal, in the order of R124. -/
inductive Reason where
  | misaligned | crossing | outOfArray | journalArea | barred | steadyLocked | unformatted | awaiting | halted
  | wiping | headerStale | serialSpent | journalFull | memoryError | memoryTimeout
  deriving DecidableEq, Repr

/-- One entry of the refusal list (R125). -/
structure Refused where
  number : Word16
  addr : Addr
  dir : Dir
  len : Len
  reason : Reason
  deriving DecidableEq, Repr

/-- What HRSP shows of the last transaction answered, with the cells on HRDATA (R111). -/
inductive HostAnswer where
  | noneYet
  | okay (data : List Cell)
  | fault (data : List Cell)
  deriving DecidableEq, Repr

/-- The Host Bus Port (section 6.1), with the HRSP and HRDATA pins. -/
structure Hbp where
  current : Option Current
  answer : HostAnswer
  regions : Vector Region 12
  /-- Oldest entry first. -/
  refusals : List Refused
  lastRefusal : Word16
  overflow : Nat
  deriving DecidableEq, Repr

/-! ## Strobe Input Unit (chapter 7) -/

/-- The FAULT action (section 7.1). -/
inductive FaultAction where
  | undoAll | alertOnly
  deriving DecidableEq, Repr

/-- One entry of the wake list: the line, and the tag that a MARK edge took when it was seen (R146). -/
inductive WakeEntry where
  | mark (tag : Word16)
  | keep
  | undo
  deriving DecidableEq, Repr

/-- The Strobe Input Unit (section 7.1). -/
structure Siu where
  markEdge : Edge
  keepEdge : Edge
  undoEdge : Edge
  faultPolarity : Edge
  faultAction : FaultAction
  strobeTag : Word16
  /-- Oldest entry first. -/
  wakeList : List WakeEntry
  wakeFault : Bool
  deriving DecidableEq, Repr

/-! ## Age Timer Unit (chapter 8) -/

/-- The expiry action (section 8.1). -/
inductive ExpiryAction where
  | alertOnly | undoTo
  deriving DecidableEq, Repr

/-- The Age Timer Unit (section 8.1). -/
structure Atu where
  enable : Bool
  tickSel : BitVec 4
  prescaler : Nat
  divider : Nat
  warnAt : Word16
  expireAt : Word16
  action : ExpiryAction
  /-- One mark per level, level 1 first. -/
  owed : Vector (Option Word16) 8
  deriving DecidableEq, Repr

/-! ## Memory Bus Port (chapter 9) -/

/-- The three requesters (R160). -/
inductive Requester where
  | host | engine | service
  deriving DecidableEq, Repr

/-- The transactions of R161. -/
inductive Purpose where
  | passThrough | preImageRead | append | captureWrite | headerHalf | scanHeaderRead | scanSlotRead
  | replaySlotRead | restore | wipeSlots | slotLoad
  deriving DecidableEq, Repr

/-- A request for a memory transaction (R160). Byte enables of a read are not used. -/
structure MemRequest where
  requester : Requester
  purpose : Purpose
  addr : Addr
  dir : Dir
  len : Len
  be : BitVec 4
  data : List Cell
  deriving DecidableEq, Repr

/-- The outstanding memory transaction, with the watch limit taken at issue (R167). -/
structure MemTxn where
  request : MemRequest
  limit : BitVec 8
  deriving DecidableEq, Repr

/-- The bus phases (section 9.1). -/
inductive BusPhase where
  | free | busy | drain | settle
  deriving DecidableEq, Repr

/-- The Memory Bus Port (section 9.1). -/
structure Mbp where
  outstanding : Option MemTxn
  waitHost : Option MemRequest
  waitEngine : Option MemRequest
  waitService : Option MemRequest
  lastGrant : Requester
  watchLimit : BitVec 8
  watchCount : Nat
  /-- REFCLK periods counted toward the watch count's next microsecond; implied by R167. -/
  watchPeriods : Nat
  /-- The watch limit that stood at the timeout, which ends the drain; implied by R168. -/
  drainLimit : BitVec 8
  phase : BusPhase
  deriving DecidableEq, Repr

/-! ## Alert and Count Unit (chapter 10) -/

/-- The eight counters (R179). -/
structure Counters where
  captures : BitVec 32
  already : BitVec 32
  untracked : BitVec 32
  replayed : BitVec 32
  breaches : BitVec 32
  refusals : BitVec 32
  strobesLost : BitVec 32
  cancelled : BitVec 32
  deriving DecidableEq, Repr

/-- The Alert and Count Unit (section 10.1). Flag and mask n stand in bit n (R200). -/
structure Acu where
  flags : BitVec 14
  masks : BitVec 14
  counters : Counters
  counterSelect : BitVec 3
  deriving DecidableEq, Repr

/-! ## Service Port (chapter 11) -/

/-- The registers of the register map (R200). -/
inductive Reg where
  | page | id | rev | cstate | depth | qcount | top | capacity | highwater | nextserial | haltwhy | lastout
  | lasttag | lastframe | straps | svcstat | cmd | cmdtag | cmdframe | cmdresult | strobecfg | strobetag
  | ticksel | timercfg | warnat | expireat | memwatch | regidx | regclass | regbase | reglimit | regcommit
  | regstat | slotidx | slotload | slotstat | slotdata | frameidx | framedata | flags | masks | ctrsel | ctrval
  | refcount | refhead | refovf
  deriving DecidableEq, Repr

/-- The register index: `$00` to `$3F`, or PAST (R185). -/
inductive RegIndex where
  | index (i : BitVec 6)
  | past
  deriving DecidableEq, Repr

/-- A byte of a multi-byte register written in the present transaction and not yet taken (R187). -/
structure StagedByte where
  reg : Reg
  offset : Nat
  value : Byte
  deriving DecidableEq, Repr

/-- The bytes of a multi-byte register taken at the read of its lowest byte (R188). -/
structure Snapshot where
  reg : Reg
  bytes : List Byte
  deriving DecidableEq, Repr

/-- SVCSTAT (R189). -/
inductive SvcStat where
  | none | ok | readOnly | badValue
  deriving DecidableEq, Repr

/-- CMDRESULT (R190). -/
inductive CmdResult where
  | none | accepted | queueFull | done | wrongState | badValue
  deriving DecidableEq, Repr

/-- REGSTAT (R116). -/
inductive RegStat where
  | none | done | locked | badValue
  deriving DecidableEq, Repr

/-- The status of the slot window (R193). -/
inductive SlotStatus where
  | none | valid | invalid | aboveTop | memerr
  deriving DecidableEq, Repr

/-- What the segment of the two-wire transaction in progress is to the Service Port (R184, R185). -/
inductive Segment where
  /-- No transaction, an address that did not match, or a read that was not acknowledged. -/
  | ignored
  /-- A write segment whose index byte has not come. -/
  | awaitIndex
  | writing
  | reading
  deriving DecidableEq, Repr

/-- What the Service Port holds SCL low for (R184). -/
inductive Stall where
  /-- The wake, after an address byte (R196). -/
  | wakeAddress
  /-- The wake, with the data byte that it delays (R196). -/
  | wakeByte (data : Byte)
  /-- A load in flight, before a byte of the slot window, with the acknowledge that will answer it (R194). -/
  | slotByte (ack : Bool)
  /-- A load in flight, after a SLOTLOAD write (R192). -/
  | loadAgain
  deriving DecidableEq, Repr

/-- The Service Port (section 11.1), with what it shows on SDA and why it holds SCL. -/
structure Svp where
  page : BitVec 2
  index : RegIndex
  staging : List StagedByte
  snapshots : List Snapshot
  stat : SvcStat
  cmdTag : Word16
  cmdFrame : Word16
  cmdResult : CmdResult
  regionIndex : Nat
  regionStaging : Region
  regStat : RegStat
  slotIndex : Nat
  /-- The slot of the load in flight; none is IDLE. -/
  slotLoad : Option Nat
  slotStatus : SlotStatus
  /-- The 16 bytes of the slot window. -/
  slotBytes : List Byte
  frameIndex : BitVec 3
  segment : Segment
  /-- The last address, index or data byte of the controller was acknowledged. -/
  ack : Bool
  /-- The byte last driven on SDA in the present read segment, if any. -/
  sda : Option Byte
  stall : Option Stall
  deriving DecidableEq, Repr

/-! ## The machine -/

/-- The whole state of the part and the commands that the outside world has still to give it. -/
structure State where
  /-- The straps sampled last (R92). -/
  straps : Straps
  /-- POR or RSTN holds the part (R93). -/
  resetHeld : Bool
  ckc : Ckc
  cpe : Cpe
  jmg : Jmg
  rpe : Rpe
  hbp : Hbp
  siu : Siu
  atu : Atu
  mbp : Mbp
  acu : Acu
  svp : Svp
  /-- The commands and events waiting to be given to the part, first in, first out (the model's own). -/
  pending : List Instr
  deriving DecidableEq, Repr

/-- The reasons a command could stop the J40 with a fault. The manual gives every command an effect in
every state, so there is none, and no fault can be raised (safe: nothing is excluded by it). -/
inductive Fault where
  deriving DecidableEq, Repr

/-- The reasons the model could give a command no meaning. -/
inductive Refusal where
  /-- Raised by `exec` for a row of the table that has no meaning in the model (safe: it only stops). No arm
  of `exec` raises it: every row has its meaning. -/
  | notModelled (mnemonic : String)
  deriving DecidableEq, Repr

/-! ## Reset values -/

/-- The Checkpoint Controller after POR or RSTN (R25). -/
def Ckc.reset : Ckc where
  state := .scan
  frames := []
  queue := []
  inService := none
  faultRequest := false
  gateHeld := false
  nextFrameId := 0
  last := ⟨.none, .none, 0, 0, .none⟩
  startUp := true
  restartPending := false
  waking := false
  wakeCount := 0

/-- The Capture Engine after any reset (R48). -/
def Cpe.reset : Cpe where
  captureSet := []
  capture := none

/-- The Journal Manager after POR or RSTN, before start-up sets its values (R70). The high-water
threshold is that of PL 0 until the straps are sampled. No copy is marked (log 27). -/
def Jmg.reset : Jmg where
  top := 0
  nextSerial := 0
  highWater := 440
  generation := 0
  current := none
  headerWrite := none
  headerWaiting := none
  headerStale := false
  wipeCursor := 0
  scan := .idle
  failedCopies := ⟨false, false⟩

/-- The Replay Engine after POR or RSTN (R91). -/
def Rpe.reset : Rpe where
  step := .idle
  target := 0
  cursor := 0
  serialBound := 0
  record := none
  retargetPending := false
  partialUndo := false
  haltReason := .none
  haltItem := .none
  source := .none
  skipOwed := false
  openingOwed := false

/-- An invalid descriptor of zero fields (R117). -/
def Region.reset : Region where
  valid := false
  base := 0
  limit := 0
  cls := .pass
  policy := .refuse

/-- The Host Bus Port after POR or RSTN (R128). -/
def Hbp.reset : Hbp where
  current := none
  answer := .noneYet
  regions := Vector.replicate 12 Region.reset
  refusals := []
  lastRefusal := 0
  overflow := 0

/-- The Strobe Input Unit after POR or RSTN (R148). -/
def Siu.reset : Siu where
  markEdge := .rising
  keepEdge := .rising
  undoEdge := .rising
  faultPolarity := .falling
  faultAction := .undoAll
  strobeTag := 0
  wakeList := []
  wakeFault := false

/-- The Age Timer Unit after POR or RSTN (R159). -/
def Atu.reset : Atu where
  enable := false
  tickSel := 10
  prescaler := 0
  divider := 0
  warnAt := 1000
  expireAt := 5000
  action := .alertOnly
  owed := Vector.replicate 8 none

/-- The Memory Bus Port after POR or RSTN (R171, R173). -/
def Mbp.reset : Mbp where
  outstanding := none
  waitHost := none
  waitEngine := none
  waitService := none
  lastGrant := .service
  watchLimit := 32
  watchCount := 0
  watchPeriods := 0
  drainLimit := 32
  phase := .settle

/-- Eight counters of zero (R183). -/
def Counters.zero : Counters := ⟨0, 0, 0, 0, 0, 0, 0, 0⟩

/-- The Alert and Count Unit after POR or RSTN (R183). -/
def Acu.reset : Acu where
  flags := 0
  masks := 0
  counters := Counters.zero
  counterSelect := 0

/-- The Service Port after POR or RSTN (R197). -/
def Svp.reset : Svp where
  page := 0
  index := .index 0
  staging := []
  snapshots := []
  stat := .none
  cmdTag := 0
  cmdFrame := 0
  cmdResult := .none
  regionIndex := 0
  regionStaging := Region.reset
  regStat := .none
  slotIndex := 0
  slotLoad := none
  slotStatus := .none
  slotBytes := List.replicate 16 0
  frameIndex := 0
  segment := .ignored
  ack := false
  sda := none
  stall := none

/-- The machine right after a power-on reset: POR has been taken and still holds the part, every block
stands at its POR value, and the straps have not been sampled yet (R93). -/
def State.reset : State where
  straps := ⟨0, 0, 0⟩
  resetHeld := true
  ckc := Ckc.reset
  cpe := Cpe.reset
  jmg := Jmg.reset
  rpe := Rpe.reset
  hbp := Hbp.reset
  siu := Siu.reset
  atu := Atu.reset
  mbp := Mbp.reset
  acu := Acu.reset
  svp := Svp.reset
  pending := []

end Sys2Proof.Machine
end

