-- ==== Sys2Proof/Machine/Flags.lean ====
section
/-! DEFINITION. The Alert and Count Unit: the fourteen flags, the eight saturating counters, and the
outputs ALERT and SETTLED (R24, R174, R178 to R180). -/

namespace Sys2Proof.Machine

/-- The fourteen alert flags, in the order of R174. -/
inductive Flag where
  | high | full | breach | done | halt | warn | expire | lost | fault | refused | memerr | stale | start | reject
  deriving DecidableEq, Repr

/-- The number of a flag, which is its bit in FLAGS and MASKS (R174, R200). -/
def Flag.number : Flag → Nat
  | .high => 0
  | .full => 1
  | .breach => 2
  | .done => 3
  | .halt => 4
  | .warn => 5
  | .expire => 6
  | .lost => 7
  | .fault => 8
  | .refused => 9
  | .memerr => 10
  | .stale => 11
  | .start => 12
  | .reject => 13

/-- The flag word with one flag set. -/
def Flag.bit (f : Flag) : BitVec 14 := 1#14 <<< Flag.number f

/-- The flag stands set. -/
def flagSet (f : Flag) (s : State) : Bool := s.acu.flags.getLsbD (Flag.number f)

/-- An event reported to ACU sets its flag (R174). -/
def raise (f : Flag) (s : State) : State :=
  { s with acu := { s.acu with flags := s.acu.flags ||| Flag.bit f } }

/-- Raise a flag if a condition holds. -/
def raiseIf (c : Bool) (f : Flag) (s : State) : State := if c then raise f s else s

/-- A counter increment that saturates at `$FFFF_FFFF` (R180). -/
def satAdd (c : BitVec 32) (n : Nat) : BitVec 32 :=
  if c.toNat + n < 2 ^ 32 then BitVec.ofNat 32 (c.toNat + n) else BitVec.allOnes 32

/-- The eight counters, in the order of R179. -/
inductive Counter where
  | captures | already | untracked | replayed | breaches | refusals | strobesLost | cancelled
  deriving DecidableEq, Repr

/-- The counters with one of them increased by `n` (R179, R180). -/
def Counters.add (c : Counters) (n : Nat) : Counter → Counters
  | .captures => { c with captures := satAdd c.captures n }
  | .already => { c with already := satAdd c.already n }
  | .untracked => { c with untracked := satAdd c.untracked n }
  | .replayed => { c with replayed := satAdd c.replayed n }
  | .breaches => { c with breaches := satAdd c.breaches n }
  | .refusals => { c with refusals := satAdd c.refusals n }
  | .strobesLost => { c with strobesLost := satAdd c.strobesLost n }
  | .cancelled => { c with cancelled := satAdd c.cancelled n }

/-- The counter that the counter select names (R179, R181). -/
def Counters.selected (c : Counters) (sel : BitVec 3) : BitVec 32 :=
  match sel.toNat with
  | 0 => c.captures
  | 1 => c.already
  | 2 => c.untracked
  | 3 => c.replayed
  | 4 => c.breaches
  | 5 => c.refusals
  | 6 => c.strobesLost
  | _ => c.cancelled

/-- An event reported to ACU increases its counter by `n` (R179). -/
def count (k : Counter) (n : Nat) (s : State) : State :=
  { s with acu := { s.acu with counters := Counters.add s.acu.counters n k } }

/-- The ALERT output: some flag is set whose mask is set, and no POR or RSTN holds the part (R93, R178). -/
def alert (s : State) : Bool := !s.resetHeld && (s.acu.flags &&& s.acu.masks) != 0

/-- The five settled states (R24). -/
def settledState : CtrlState → Bool
  | .ready | .await | .unformatted | .bypass | .dormant => true
  | _ => false

/-- The SETTLED output (R24, R93). -/
def settled (s : State) : Bool := !s.resetHeld && s.ckc.queue.isEmpty && settledState s.ckc.state

end Sys2Proof.Machine
end

