-- ==== Sys2Proof/Machine/Operands.lean ====
section
/-! DEFINITION. The forms that operands take: lengths, cell addresses, beats, the two byte orders, and the
endings of a memory transaction. -/

namespace Sys2Proof.Machine

/-- The number of cells of a length (R110). -/
def Len.cells : Len → Nat
  | .one => 1
  | .two => 2
  | .four => 4
  | .eight => 8

/-- The code of a length in REFHEAD (R200). -/
def Len.code : Len → Nat
  | .one => 0
  | .two => 1
  | .four => 2
  | .eight => 3

/-- The first `n` beats of a transaction, which are all that a transaction of `n` cells has (R160). -/
def takeBeats (n : Nat) (d : Beats) : List Cell := d.toList.take n

/-- The addresses of `n` consecutive cells from `a` upward. -/
def cellsFrom (a : Addr) : Nat → List Addr
  | 0 => []
  | n + 1 => a :: cellsFrom (a + 4) n

/-- The cells of a host transaction, in ascending address order (R112). -/
def cellsOf (t : HostTxn) : List Addr := cellsFrom t.addr (Len.cells t.len)

/-- The data of a host write, one cell for each cell of its length. -/
def dataOf (t : HostTxn) : List Cell := takeBeats (Len.cells t.len) t.data

/-- The byte enables a host transaction puts on MBE: its own for a single-cell write, all four otherwise
(R113, R121). -/
def enablesOf (t : HostTxn) : BitVec 4 :=
  if t.dir = .write ∧ t.len = .one then t.be else 0xF

/-- A single-cell write with all four byte enables clear (R113). -/
def isEmptyWrite (t : HostTxn) : Bool :=
  t.dir = .write && t.len = .one && t.be = 0

/-- `n` zero cells, the data of a refused read (R111). -/
def zeroCells (n : Nat) : List Cell := List.replicate n Cell.zero

/-- The bytes of a cell, lowest address first. -/
def Cell.bytes (c : Cell) : List Byte := [c.b0, c.b1, c.b2, c.b3]

/-- The bytes of consecutive cells, lowest address first. -/
def bytesOfCells (cs : List Cell) : List Byte := cs.flatMap Cell.bytes

/-- Consecutive cells from bytes, lowest address first. -/
def cellsOfBytes : List Byte → List Cell
  | a :: b :: c :: d :: rest => ⟨a, b, c, d⟩ :: cellsOfBytes rest
  | _ => []

/-- The low `n` bytes of a number, least significant first (00_scope.md, Byte order). -/
def littleEndian : Nat → Nat → List Byte
  | 0, _ => []
  | n + 1, v => BitVec.ofNat 8 v :: littleEndian n (v / 256)

/-- The number whose bytes are given, least significant first. -/
def ofLittleEndian : List Byte → Nat
  | [] => 0
  | b :: bs => b.toNat + 256 * ofLittleEndian bs

/-- `n` bytes from offset `k`. -/
def slice (bs : List Byte) (k n : Nat) : List Byte := (bs.drop k).take n

/-- The little-endian field of `n` bytes at offset `k`. -/
def fieldAt (bs : List Byte) (k n : Nat) : Nat := ofLittleEndian (slice bs k n)

/-- How a memory transaction ends for its requester (section 9.3; DROPPED reaches none). -/
inductive Ending where
  | done (cells : Beats)
  | error
  | timeout
  deriving DecidableEq, Repr

/-- The ending that the memory's answer to a read gives. -/
def ReadEnding.ending : ReadEnding → Ending
  | .done cells => .done cells
  | .error => .error

/-- The ending that the memory's answer to a write gives; a write returns no cells. -/
def WriteEnding.ending : WriteEnding → Ending
  | .done => .done Beats.zero
  | .error => .error

/-- The refusal reason of a host memory transaction that did not end DONE (R121, R40 to R42). -/
def Ending.refusal : Ending → Option Reason
  | .done _ => none
  | .error => some .memoryError
  | .timeout => some .memoryTimeout

/-- The ending is DONE. -/
def Ending.isDone : Ending → Bool
  | .done _ => true
  | _ => false

/-- The cells of an ending: those of a DONE, none otherwise (R166). -/
def Ending.cells : Ending → Beats
  | .done cells => cells
  | _ => Beats.zero

end Sys2Proof.Machine
end

