-- ==== Sys2Proof/Machine/Formats.lean ====
section
/-! DEFINITION. The byte layouts of the slot and the header copy with their CRC-16 (R51, R52, R59, R60,
R198, R199), the stored form of the next serial (R54) and the order of generations (R63). -/

namespace Sys2Proof.Machine

/-- One bit through the CRC-16 of generator `$1021`, most significant bit first (R198). -/
def crcBit (c : BitVec 16) (b : Bool) : BitVec 16 :=
  if (c.msb != b) then (c <<< 1) ^^^ 0x1021#16 else c <<< 1

/-- One byte through the CRC-16, from its most significant bit (R198). -/
def crcByte (c : BitVec 16) (b : Byte) : BitVec 16 :=
  [7, 6, 5, 4, 3, 2, 1, 0].foldl (fun c i => crcBit c (b.getLsbD i)) c

/-- The CRC-16 of bytes in order, initial value `$FFFF` (R198). -/
def crc16 (bs : List Byte) : BitVec 16 := bs.foldl crcByte 0xFFFF#16

/-! ## Slots -/

/-- The 14 bytes of a record before its check (R198). -/
def recordBody (r : Record) : List Byte :=
  [0x5A] ++ littleEndian 3 r.cell.toNat ++ Cell.bytes r.preImage ++ littleEndian 6 r.serial

/-- The 16 bytes of a record (R51, R198). -/
def recordBytes (r : Record) : List Byte :=
  recordBody r ++ littleEndian 2 (crc16 (recordBody r)).toNat

/-- The record that the 16 bytes of a slot hold (R198). -/
def recordOfBytes (bs : List Byte) : Record where
  cell := BitVec.ofNat 24 (fieldAt bs 1 3)
  preImage := ⟨bs.getD 4 0, bs.getD 5 0, bs.getD 6 0, bs.getD 7 0⟩
  serial := fieldAt bs 8 6

/-- The four tests by which a slot validates, given the journal base (R52). -/
def slotValidates (base : Nat) (bs : List Byte) : Bool :=
  bs.getD 0 0 = 0x5A
  && fieldAt bs 14 2 = (crc16 (bs.take 14)).toNat
  && fieldAt bs 1 3 % 4 = 0
  && fieldAt bs 1 3 < base

/-! ## Header copies -/

/-- The code of a header state (R199). -/
def HeaderState.code : HeaderState → Nat
  | .clean => 0
  | .opened => 1
  | .replaying => 2
  | .wiping => 3

/-- The header state of a code, if it names one (R199). -/
def HeaderState.ofCode : Nat → Option HeaderState
  | 0 => some .clean
  | 1 => some .opened
  | 2 => some .replaying
  | 3 => some .wiping
  | _ => none

/-- The four bytes of a level entry (R199). -/
def LevelEntry.bytes (e : LevelEntry) : List Byte := littleEndian 2 e.start ++ littleEndian 2 e.tag.toNat

/-- The bytes of `n` level entries; entries above the list are zero (R59). -/
def levelEntryBytes : Nat → List LevelEntry → List Byte
  | 0, _ => []
  | n + 1, [] => List.replicate 4 0 ++ levelEntryBytes n []
  | n + 1, e :: es => LevelEntry.bytes e ++ levelEntryBytes n es

/-- The 62 bytes of a header copy before its check (R199). -/
def headerBody (h : Header) : List Byte :=
  [0xC7, 0x4D] ++ littleEndian 4 h.generation.toNat
  ++ [BitVec.ofNat 8 (HeaderState.code h.fields.state), BitVec.ofNat 8 h.fields.depth,
      BitVec.ofNat 8 h.fields.target, h.fields.broken]
  ++ littleEndian 2 h.fields.top ++ littleEndian 6 h.serial
  ++ levelEntryBytes 8 h.fields.entries ++ List.replicate 12 0

/-- The 64 bytes of a header copy (R199). -/
def headerBytes (h : Header) : List Byte :=
  headerBody h ++ littleEndian 2 (crc16 (headerBody h)).toNat

/-- The level entry of level `i` + 1 in the bytes of a header copy (R199). -/
def levelEntryAt (bs : List Byte) (i : Nat) : LevelEntry where
  start := fieldAt bs (18 + 4 * i) 2
  tag := BitVec.ofNat 16 (fieldAt bs (20 + 4 * i) 2)

/-- The header that 64 bytes describe, with the level entries of levels 1 to depth; none when the state
field names no state (R60, test 3). -/
def headerOfBytes (bs : List Byte) : Option Header :=
  (HeaderState.ofCode (bs.getD 6 0).toNat).map fun st =>
    { generation := BitVec.ofNat 32 (fieldAt bs 2 4)
      fields :=
        { state := st
          depth := (bs.getD 7 0).toNat
          target := (bs.getD 8 0).toNat
          broken := bs.getD 9 0
          top := fieldAt bs 10 2
          entries := (List.range (bs.getD 7 0).toNat).map (levelEntryAt bs) }
      serial := fieldAt bs 12 6 }

/-- Starts that do not decrease from `low` upward and do not exceed `top` (R60, test 7). -/
def startsRise (top : Nat) : Nat → List LevelEntry → Bool
  | _, [] => true
  | low, e :: es => low ≤ e.start && e.start ≤ top && startsRise top e.start es

/-- Tests 4 to 7 by which a header copy is valid (R60). -/
def headerLegal (cap : Nat) (h : Header) : Bool :=
  let f := h.fields
  let idle := f.state = .clean || f.state = .wiping
  f.depth ≤ Config.maxDepth
  && (if idle then f.depth = 0 else 1 ≤ f.depth)
  && (if f.state = .replaying then f.target < f.depth else f.target = 0)
  && f.top ≤ cap
  && (!idle || f.top = 0)
  && ((f.entries.head?.map LevelEntry.start).getD 0 = 0)
  && startsRise f.top 0 f.entries

/-- The header of 64 bytes that pass every test of R60, given the capacity. -/
def validHeader (cap : Nat) (bs : List Byte) : Option Header :=
  if bs.getD 0 0 = 0xC7 ∧ bs.getD 1 0 = 0x4D ∧ fieldAt bs 62 2 = (crc16 (bs.take 62)).toNat then
    match headerOfBytes bs with
    | some h => if headerLegal cap h then some h else none
    | none => none
  else none

/-! ## Serials and generations -/

/-- The stored form of the next serial (R54). -/
def storeSerial (n : Nat) : Nat := if n < Config.lastSerial then n else Config.lastSerial

/-- A stored next serial taken back at start-up: `$FFFF_FFFF_FFFF` stands for the spent value (R54). -/
def takeSerial (n : Nat) : Nat := if n = Config.lastSerial then Config.spentSerial else n

/-- Generation `g2` is greater than `g1` (R63). -/
def generationGreater (g2 g1 : BitVec 32) : Bool :=
  let d := (g2 - g1).toNat
  1 ≤ d && d < 2 ^ 31

/-- A copy carries a mark. -/
def CopyMarks.has (m : CopyMarks) (c : Copy) : Bool :=
  match c with
  | .a => m.a
  | .b => m.b

/-- The marks with that of one copy set or cleared. -/
def CopyMarks.put (m : CopyMarks) (c : Copy) (v : Bool) : CopyMarks :=
  match c with
  | .a => { m with a := v }
  | .b => { m with b := v }

/-- The copy that start-up selects, with its header (R63, R96). -/
def selectCopy (a b : Option Header) : Option (Copy × Header) :=
  match a, b with
  | none, none => none
  | some ha, none => some (.a, ha)
  | none, some hb => some (.b, hb)
  | some ha, some hb => if generationGreater hb.generation ha.generation then some (.b, hb) else some (.a, ha)

end Sys2Proof.Machine
end

