-- ==== Sys2Proof/Machine/Placement.lean ====
section
/-! DEFINITION. Placement: what the straps fix of the array and the journal area (R49, R50, R92), and the
addresses of header copies and slots. -/

namespace Sys2Proof.Machine

/-- The array size: 4 MiB for PL 0 to 3, 16 MiB for PL 4 to 7 (R49). -/
def arraySize (s : Straps) : Nat := if s.pl.toNat < 4 then 0x400000 else 0x1000000

/-- The length of the journal area: 8, 32, 128 or 512 KiB by the low two bits of PL (R49). -/
def journalLength (s : Straps) : Nat :=
  match s.pl.toNat % 4 with
  | 0 => 0x2000
  | 1 => 0x8000
  | 2 => 0x20000
  | _ => 0x80000

/-- The first byte of the journal area, which stands at the top of the array (R49). -/
def journalBase (s : Straps) : Nat := arraySize s - journalLength s

/-- The number of slots: the length divided by 16, less 8 (R49). -/
def capacity (s : Straps) : Nat := journalLength s / 16 - 8

/-- The high-water reset value (R49, R58). -/
def highWaterReset (s : Straps) : Nat := capacity s - 64

/-- The address of slot `i`: 16 bytes at offset 128 + 16·i (R50). -/
def slotAddr (s : Straps) (i : Nat) : Addr := BitVec.ofNat 24 (journalBase s + 128 + 16 * i)

/-- The offset of a header copy from the journal base (R50). -/
def Copy.offset : Copy → Nat
  | .a => 0
  | .b => 64

/-- The other header copy. -/
def Copy.other : Copy → Copy
  | .a => .b
  | .b => .a

/-- The address of a half of a header copy: bytes 0 to 31, then bytes 32 to 63 (R61, R95). -/
def headerHalfAddr (s : Straps) (c : Copy) (second : Bool) : Addr :=
  BitVec.ofNat 24 (journalBase s + Copy.offset c + (if second then 32 else 0))

/-- The recovery policies of RP[1:0] (R92). -/
inductive Policy where
  | autoUndo | hold | discard | bypass
  deriving DecidableEq, Repr

/-- The recovery policy the straps select (R92). -/
def policy (s : Straps) : Policy :=
  match s.rp.toNat with
  | 0 => .autoUndo
  | 1 => .hold
  | 2 => .discard
  | _ => .bypass

/-- The 7-bit Service Port address `$2C` + SA (R184). -/
def serviceAddress (s : Straps) : BitVec 7 := BitVec.ofNat 7 (0x2C + s.sa.toNat)

end Sys2Proof.Machine
end

