-- ==== Sys2Proof/Machine/Ops.lean ====
section
/-! DEFINITION. The operations that several blocks share: depth and frames, requests to the Memory Bus
Port and the end of its transaction, answers and refusals to the host, arrivals at the command queue and
its discard, and the last outcome record. -/

namespace Sys2Proof.Machine

/-! ## The frame stack -/

/-- The number of open levels (R3). -/
def depth (s : State) : Nat := s.ckc.frames.length

/-- The number of free slots (R34). -/
def freeSlots (s : State) : Nat := capacity s.straps - s.jmg.top

/-- The broken flags of a list of frames, bit L − 1 for level L, clear above the list (R59). -/
def brokenFlags : List Frame → BitVec 8
  | [] => 0
  | f :: fs => (brokenFlags fs <<< 1) ||| (if f.broken then 1 else 0)

/-- The level entries of a list of frames (R59). -/
def levelEntries (fs : List Frame) : List LevelEntry := fs.map fun f => ⟨f.start, f.tag⟩

/-! ## The Memory Bus Port's places -/

/-- A requester presents a request, which waits in its place until it is granted (R162). -/
def present (r : MemRequest) (s : State) : State :=
  match r.requester with
  | .host => { s with mbp := { s.mbp with waitHost := some r } }
  | .engine => { s with mbp := { s.mbp with waitEngine := some r } }
  | .service => { s with mbp := { s.mbp with waitService := some r } }

/-- A HOST read; MBE is not used (R160). -/
def hostRead (p : Purpose) (a : Addr) (n : Len) : MemRequest := ⟨.host, p, a, .read, n, 0xF, []⟩

/-- A HOST write with its byte enables (R160). -/
def hostWrite (p : Purpose) (a : Addr) (n : Len) (be : BitVec 4) (d : List Cell) : MemRequest :=
  ⟨.host, p, a, .write, n, be, d⟩

/-- An ENGINE read (R161). -/
def engineRead (p : Purpose) (a : Addr) (n : Len) : MemRequest := ⟨.engine, p, a, .read, n, 0xF, []⟩

/-- An ENGINE write, all byte enables set (R160, R161). -/
def engineWrite (p : Purpose) (a : Addr) (n : Len) (d : List Cell) : MemRequest :=
  ⟨.engine, p, a, .write, n, 0xF, d⟩

/-- RPE and JMG present nothing new while a restart is pending (R94). -/
def presentEngine (r : MemRequest) (s : State) : State :=
  if s.ckc.restartPending then s else present r s

/-- The outstanding transaction is one of purpose `p`. -/
def outstandingIs (p : Purpose) (s : State) : Bool :=
  (s.mbp.outstanding.map fun t => t.request.purpose) = some p

/-- The outstanding transaction ends at MBP: DONE, ERROR (R165, R166), or TIMEOUT, which begins a drain by
the watch limit that stands (R167, R168). -/
def endTransaction (e : Ending) (s : State) : State :=
  match e with
  | .done _ => { s with mbp := { s.mbp with outstanding := none, phase := .free } }
  | .error => raise .memerr { s with mbp := { s.mbp with outstanding := none, phase := .free } }
  | .timeout =>
    raise .memerr
      { s with
        mbp :=
          { s.mbp with
            outstanding := none
            phase := .drain
            watchCount := 0
            watchPeriods := 0
            drainLimit := s.mbp.watchLimit } }

/-! ## Answers to the host -/

/-- HBP answers the current transaction OKAY, with the cells read for a read (R111). -/
def answerOkay (data : List Cell) (s : State) : State :=
  { s with hbp := { s.hbp with current := none, answer := .okay data } }

/-- The refusal list and overflow count after a refusal (R125). -/
def enterRefusal (r : Refused) (h : Hbp) : Hbp :=
  if h.refusals.length < Config.refusalListCapacity then
    { h with lastRefusal := r.number, refusals := h.refusals ++ [r] }
  else
    { h with
      lastRefusal := r.number
      overflow := if h.overflow < Config.overflowLimit then h.overflow + 1 else h.overflow }

/-- HBP answers a transaction FAULT and records the refusal: zero cells for a read (R111), the refusal
number, the flag REFUSED, the counter REFUSALS and the refusal list (R125). -/
def refuseTxn (t : HostTxn) (why : Reason) (s : State) : State :=
  let entry : Refused := ⟨s.hbp.lastRefusal + 1, t.addr, t.dir, t.len, why⟩
  let data := if t.dir = .read then zeroCells (Len.cells t.len) else []
  count .refusals 1 (raise .refused
    { s with hbp := { enterRefusal entry s.hbp with current := none, answer := .fault data } })

/-- HBP refuses the current transaction, if there is one (R124). -/
def refuse (why : Reason) (s : State) : State :=
  match s.hbp.current with
  | none => s
  | some c => refuseTxn c.txn why s

/-- The answer to the current transaction at the end of its service: a refusal with its reason, or OKAY. -/
def respond (why : Option Reason) (data : List Cell) (s : State) : State :=
  match why with
  | some r => refuse r s
  | none => answerOkay data s

/-- The level gate opens (R8). -/
def releaseGate (s : State) : State := { s with ckc := { s.ckc with gateHeld := false } }

/-! ## The command queue -/

/-- An arrival finds room in the command queue (R133). -/
def queueHasRoom (s : State) : Bool := s.ckc.queue.length < Config.queueCapacity

/-- An arrival joins the command queue at its tail (R133). -/
def enqueue (e : QueueEntry) (s : State) : State :=
  { s with ckc := { s.ckc with queue := s.ckc.queue ++ [e] } }

/-- A strobe arrival joins, or is dropped with the flag LOST and the counter STROBES_LOST (R134). -/
def strobeArrival (k : QueueKind) (s : State) : State :=
  if queueHasRoom s then enqueue ⟨.strobe, k⟩ s else count .strobesLost 1 (raise .lost s)

/-- A service arrival joins with CMDRESULT ACCEPTED, or is dropped with QUEUE_FULL (R134, R135). -/
def serviceArrival (k : QueueKind) (s : State) : State :=
  if queueHasRoom s then
    enqueue ⟨.service, k⟩ { s with svp := { s.svp with cmdResult := .accepted } }
  else { s with svp := { s.svp with cmdResult := .queueFull } }

/-- Every entry of the command queue is discarded and counted in CANCELLED (R137, R138). -/
def discardQueue (s : State) : State :=
  count .cancelled s.ckc.queue.length { s with ckc := { s.ckc with queue := [] } }

/-! ## Outcomes -/

/-- The kind that the last outcome record shows for a queue kind (R23). -/
def QueueKind.cmdKind : QueueKind → CmdKind
  | .mark _ => .mark
  | .keep => .keep
  | .undo => .undo
  | .undoAll => .undoAll
  | .undoTo _ => .undoTo

/-- The source that the last outcome record shows for a queue source (R23). -/
def QueueSource.source : QueueSource → Source
  | .strobe => .strobe
  | .service => .service
  | .timer => .timer

/-- An outcome other than DONE and DONE_PARTIAL sets the flag REJECT (R22). -/
def CmdOutcome.rejects : CmdOutcome → Bool
  | .done | .donePartial => false
  | _ => true

/-- The last outcome record is rewritten, and REJECT is set by every outcome but DONE and DONE_PARTIAL
(R22, R23). While a restart is pending no outcome is recorded (R25, R89). DEDUCED, unsafe (log 33): R94 gives the
header write in flight its usual consequence, and the model reads the record and its flags as no part of it. -/
def recordOutcome (o : LastOutcome) (s : State) : State :=
  if s.ckc.restartPending then s
  else raiseIf (CmdOutcome.rejects o.outcome) .reject { s with ckc := { s.ckc with last := o } }

/-- The command in service leaves service (R7). -/
def leaveService (s : State) : State := { s with ckc := { s.ckc with inService := none } }

/-- HEADER_STALE is set; the flag STALE is set when it was clear (R65). -/
def setStale (s : State) : State :=
  raiseIf (!s.jmg.headerStale) .stale { s with jmg := { s.jmg with headerStale := true } }

end Sys2Proof.Machine
end

