-- ==== Sys2Proof/Machine/HostPort.lean ====
section
/-! DEFINITION. The Host Bus Port (chapter 6): the checks, the region lookup, the disposal of a taken
transaction by class and controller state, and the change of controller state with what it makes the
Host Bus Port and the end of start-up do. -/

namespace Sys2Proof.Machine

/-! ## Checks and lookup -/

/-- The first check that fails, if any (R112). -/
def firstFailedCheck (s : State) (t : HostTxn) : Option Reason :=
  let a := t.addr.toNat
  if a % 4 ≠ 0 then some .misaligned
  else if a % 32 + 4 * Len.cells t.len > 32 then some .crossing
  else if arraySize s.straps ≤ a then some .outOfArray
  else if journalBase s.straps ≤ a ∧ s.ckc.state ≠ .bypass then some .journalArea
  else none

/-- A valid descriptor whose span contains the address, base inclusive and limit exclusive (R114). -/
def Region.covers (r : Region) (a : Addr) : Bool :=
  r.valid && r.base.toNat ≤ a.toNat && a.toNat < r.limit.toNat

/-- The class and full policy of an address: the lowest-numbered descriptor that covers it, or PASS (R114). -/
def lookupRegion (regions : Vector Region 12) (a : Addr) : RegionClass × FullPolicy :=
  match regions.toList.find? (fun r => Region.covers r a) with
  | some r => (r.cls, r.policy)
  | none => (.pass, .refuse)

/-! ## Disposal -/

/-- The current transaction takes another disposition. -/
def setDisposition (d : Disposition) (s : State) : State :=
  { s with hbp := { s.hbp with current := s.hbp.current.map fun c => { c with disposition := d } } }

/-- The HOST memory transaction that mirrors a host transaction (R121). -/
def mirrorRequest (t : HostTxn) : MemRequest :=
  match t.dir with
  | .read => hostRead .passThrough t.addr t.len
  | .write => hostWrite .passThrough t.addr t.len (enablesOf t) (dataOf t)

/-- The transaction passes: HBP puts it in SERVICE and presents its memory transaction (R118, R121). -/
def passThrough (t : HostTxn) (s : State) : State := present (mirrorRequest t) (setDisposition .service s)

/-- The transaction passes, unless a restart is pending, which takes nothing new into service (R94). -/
def passOrHold (t : HostTxn) (s : State) : State :=
  if s.ckc.restartPending then setDisposition .held s else passThrough t s

/-- What the controller state makes of a taken JOURNALED transaction (R1, R118). -/
inductive JournaledFate where
  | pass | hold | gate
  | refuse (why : Reason)
  deriving DecidableEq, Repr

/-- The JOURNALED columns of R118; SCAN, RECOVER and DORMANT hold what was taken before them (R119). -/
def journaledFate (d : Dir) : CtrlState → JournaledFate
  | .scan | .recover | .dormant | .replay => .hold
  | .halted => .refuse .halted
  | .bypass => .pass
  | .unformatted => match d with
    | .read => .pass
    | .write => .refuse .unformatted
  | .await => match d with
    | .read => .pass
    | .write => .refuse .awaiting
  | .wipe => match d with
    | .read => .pass
    | .write => .refuse .wiping
  | .ready | .enter | .merge => match d with
    | .read => .pass
    | .write => .gate

/-- A taken transaction is disposed of by its class, its direction, the controller state and, for STEADY
writes, the depth (R118). -/
def dispose (c : Current) (s : State) : State :=
  match c.cls with
  | .pass => passOrHold c.txn s
  | .barred => refuseTxn c.txn .barred s
  | .steady =>
    if c.txn.dir = .write ∧ depth s ≠ 0 then refuseTxn c.txn .steadyLocked s else passOrHold c.txn s
  | .journaled =>
    match journaledFate c.txn.dir s.ckc.state with
    | .pass => passOrHold c.txn s
    | .hold => setDisposition .held s
    | .gate => setDisposition .gate s
    | .refuse why => refuseTxn c.txn why s

/-- A single-cell write with no byte enable set completes or is refused at once, without memory (R113). -/
def disposeEmptyWrite (c : Current) (s : State) : State :=
  match c.cls with
  | .barred => refuseTxn c.txn .barred s
  | .steady => if depth s ≠ 0 then refuseTxn c.txn .steadyLocked s else answerOkay [] s
  | _ => answerOkay [] s

/-- HBP takes a transaction: the checks, the region lookup and the disposal (R110, R112, R115, R118). -/
def takeTxn (t : HostTxn) (s : State) : State :=
  match firstFailedCheck s t with
  | some why => refuseTxn t why s
  | none =>
    let attrs := lookupRegion s.hbp.regions t.addr
    let c : Current := ⟨t, .held, attrs.1, attrs.2⟩
    let s := { s with hbp := { s.hbp with current := some c } }
    if isEmptyWrite t then disposeEmptyWrite c s else dispose c s

/-- No exception of R110 keeps a presented transaction UNTAKEN. -/
def canTake (s : State) : Bool :=
  !s.resetHeld && !s.ckc.restartPending &&
    s.ckc.state ≠ .scan && s.ckc.state ≠ .recover && s.ckc.state ≠ .dormant

/-- SCAN and RECOVER, in which no host transaction is taken and one taken before stays HELD (R80, R110). -/
def holdsHost : CtrlState → Bool
  | .scan | .recover => true
  | _ => false

/-- HBP judges the current transaction by the state that now stands: it takes an UNTAKEN one when nothing
keeps it so, and judges a HELD or GATE one again, which stays HELD through SCAN and RECOVER (R80, R110, R119,
R120). -/
def rejudge (s : State) : State :=
  match s.hbp.current with
  | none => s
  | some c =>
    match c.disposition with
    | .untaken => if canTake s then takeTxn c.txn s else s
    | .held | .gate => if holdsHost s.ckc.state then setDisposition .held s else dispose c s
    | .service | .capture => s

/-! ## Changes of controller state -/

/-- The states whose entry ends a start-up (R105). -/
def endsStartUp : CtrlState → Bool
  | .ready | .await | .unformatted | .bypass => true
  | _ => false

/-- A frame as start-up leaves it: age 0, warned and expired clear (R105). -/
def Frame.rested (f : Frame) : Frame := { f with age := 0, warned := false, expired := false }

/-- Start-up ends: the condition is cleared, ages start from 0 and the flag START is set (R105). -/
def endStartUp (s : State) : State :=
  raise .start
    { s with ckc := { s.ckc with startUp := false, frames := s.ckc.frames.map Frame.rested } }

/-- CKC enters a controller state; start-up ends if this state ends it; HBP judges the current
transaction again (R2, R105, R119). -/
def enterState (st : CtrlState) (s : State) : State :=
  let s1 : State := { s with ckc := { s.ckc with state := st } }
  rejudge (if s.ckc.startUp && endsStartUp st then endStartUp s1 else s1)

/-- CKC completes a command: its outcome is recorded, it leaves service, and CKC enters a state (R7). While a restart
is pending the outcome alone is not recorded (R25, R89; DEDUCED against R94 and R175, log 33). -/
def completeCommand (o : LastOutcome) (st : CtrlState) (s : State) : State :=
  enterState st (leaveService (recordOutcome o s))

end Sys2Proof.Machine
end

