-- ==== Sys2Proof/Machine/CaptureEngine.lean ====
section
/-! DEFINITION. The Capture Engine and the level gate's entry (chapter 2, R8, R120, R122). -/

namespace Sys2Proof.Machine

/-! ## The capture set -/

/-- The cells of a list that need capture at a level: those with no entry at that level (R28). -/
def cellsToCapture (set : List CaptureEntry) (level : Nat) (cells : List Addr) : List Addr :=
  cells.filter fun a => !set.contains ⟨a, level⟩

/-- An entry is inserted for a completed record, or UNTRACKED counts it when the set is full (R30). No two
entries have the same cell and level (R27). -/
def insertEntry (e : CaptureEntry) (s : State) : State :=
  if s.cpe.captureSet.contains e then s
  else if s.cpe.captureSet.length < Config.captureSetCapacity then
    { s with cpe := { s.cpe with captureSet := s.cpe.captureSet ++ [e] } }
  else count .untracked 1 s

/-- Entries are inserted for completed records, in ascending address order (R30). -/
def insertEntries (level : Nat) : List Addr → State → State
  | [], s => s
  | a :: as, s => insertEntries level as (insertEntry ⟨a, level⟩ s)

/-- The capture set after the relabel of level `d`: its entries become entries of level d − 1, or are
dropped where the cell has one already (R31). -/
def relabelSet (d : Nat) (set : List CaptureEntry) : List CaptureEntry :=
  set.filterMap fun e =>
    if e.level = d then
      if set.contains ⟨e.cell, d - 1⟩ then none else some ⟨e.cell, d - 1⟩
    else some e

/-- The capture set without the entries of level `l` and above (R32). -/
def cutSet (l : Nat) (set : List CaptureEntry) : List CaptureEntry := set.filter fun e => e.level < l

/-- CPE empties the capture set (R32). -/
def emptyCaptureSet (s : State) : State := { s with cpe := { s.cpe with captureSet := [] } }

/-! ## The steps of a capture -/

/-- The capture in progress takes new fields. -/
def setCapture (c : Capture) (s : State) : State := { s with cpe := { s.cpe with capture := some c } }

/-- Step FINISH: entries for the records that completed, the capture discarded, the gate released, and the
host answered (R39). -/
def finishCapture (c : Capture) (why : Option Reason) (s : State) : State :=
  let s1 := insertEntries c.level (c.list.take c.appended) s
  respond why [] (releaseGate { s1 with cpe := { s1.cpe with capture := none } })

/-- Step WRITE: the host write is presented, with its byte enables for a single cell (R37). -/
def beginHostWrite (c : Capture) (s : State) : State :=
  present (hostWrite .captureWrite c.write.addr c.write.len (enablesOf c.write) (dataOf c.write))
    (setCapture { c with step := .write } s)

/-- The next record of the capture list: it takes the next serial, which is consumed, and its slot write
at top is presented (R36, R53). -/
def beginAppend (c : Capture) (s : State) : State :=
  let r : Record := ⟨c.list.getD c.appended 0, c.preImages.getD c.appended Cell.zero, s.jmg.nextSerial⟩
  present (hostWrite .append (slotAddr s.straps s.jmg.top) .four 0xF (cellsOfBytes (recordBytes r)))
    { setCapture { c with step := .append } s with
      jmg := { s.jmg with nextSerial := s.jmg.nextSerial + 1 } }

/-- Step READ: the pre-image read of all the cells of the write is presented (R35). -/
def beginPreImageRead (c : Capture) (s : State) : State :=
  present (hostRead .preImageRead c.write.addr c.write.len)
    (setCapture { c with step := .read, reserved := c.list.length } s)

/-- Every open frame is marked broken (R44). -/
def breakFrames (s : State) : State :=
  { s with ckc := { s.ckc with frames := s.ckc.frames.map fun f => { f with broken := true } } }

/-- A write under the BREACH policy that finds too few free slots: frames broken, flags and counter, and the
host write without records (R44). -/
def beginBreach (c : Capture) (s : State) : State :=
  beginHostWrite { c with breach := true } (breakFrames (count .breaches 1 (raise .breach s)))

/-- Step CHECK after the lookup: the tests of R33 and the free-space test of R34, in their order. -/
def checkCapture (c : Capture) (s : State) : State :=
  let m := c.list.length
  if m = 0 then beginHostWrite c (count .already 1 s)
  else if s.jmg.headerStale then finishCapture c (some .headerStale) s
  else if s.jmg.nextSerial + m - 1 > Config.lastSerial then finishCapture c (some .serialSpent) s
  else if m ≤ freeSlots s then beginPreImageRead c s
  else
    match c.policy with
    | .refuse => finishCapture c (some .journalFull) (raise .full s)
    | .breach => beginBreach c (raise .full s)

/-- CPE takes a write at the present depth: the capture in progress in step CHECK with its capture list
(R26, R28). -/
def newCapture (c : Current) (s : State) : Capture where
  write := c.txn
  level := depth s
  policy := c.policy
  step := .check
  list := cellsToCapture s.cpe.captureSet (depth s) (cellsOf c.txn)
  reserved := 0
  preImages := []
  appended := 0
  breach := false

/-! ## The level gate -/

/-- The conditions of the level gate (R8), and no restart pending, which takes nothing into service (R94). -/
def gateOpen (s : State) : Bool :=
  s.ckc.state = .ready && s.ckc.queue.isEmpty && s.ckc.inService.isNone && !s.ckc.faultRequest
    && !s.ckc.gateHeld && !s.ckc.restartPending && !s.resetHeld

/-- A JOURNALED write enters service through the gate: without capture at depth 0 (R121), handed to CPE at
depth 1 or more (R122). -/
def enterGate (c : Current) (s : State) : State :=
  let s1 : State := { s with ckc := { s.ckc with gateHeld := true } }
  if depth s = 0 then passThrough c.txn s1
  else
    let k := newCapture c s
    checkCapture k (setCapture k (setDisposition .capture s1))

/-- A write waiting in GATE is put in service if the conditions of R8 hold, and stays in GATE otherwise
(R120). -/
def tryGate (s : State) : State :=
  match s.hbp.current with
  | some c => if c.disposition = .gate ∧ gateOpen s then enterGate c s else s
  | none => s

/-! ## The ends of a capture's memory transactions -/

/-- The pre-image of each listed cell, from the beats of the read of the whole write (R35). -/
def preImagesFrom (c : Capture) (cells : Beats) : List Cell :=
  c.list.map fun a => (takeBeats (Len.cells c.write.len) cells).getD ((a - c.write.addr).toNat / 4) Cell.zero

/-- The pre-image read ends: the pre-images are kept and the first append begins (R35), or the write is
refused (R40). -/
def preImageReadEnded (e : Ending) (s : State) : State :=
  match s.cpe.capture with
  | none => s
  | some c =>
    match Ending.refusal e with
    | some why => finishCapture c (some why) s
    | none => beginAppend { c with preImages := preImagesFrom c (Ending.cells e), appended := 0 } s

/-- Top rises by 1 at a completed append, and the flag HIGH is set when it reaches the threshold (R36, R57). -/
def raiseTop (s : State) : State :=
  raiseIf (s.jmg.top + 1 = s.jmg.highWater) .high { s with jmg := { s.jmg with top := s.jmg.top + 1 } }

/-- A record's slot write ends: the record is live and the next append or the host write follows (R36), or
the write is refused (R41). -/
def appendEnded (e : Ending) (s : State) : State :=
  match s.cpe.capture with
  | none => s
  | some c =>
    match Ending.refusal e with
    | some why => finishCapture c (some why) s
    | none =>
      let s1 := count .captures 1 (raiseTop s)
      let c1 := { c with appended := c.appended + 1 }
      if c1.appended < c.reserved then beginAppend c1 s1 else beginHostWrite c1 s1

/-- The host write of a capture ends: OKAY (R37), or the write is refused (R42). -/
def captureWriteEnded (e : Ending) (s : State) : State :=
  match s.cpe.capture with
  | none => s
  | some c => finishCapture c (Ending.refusal e) s

/-- A pass-through transaction ends: OKAY with the cells of a read, or a refusal; a JOURNALED write releases
the gate that it held (R121, R8). -/
def passThroughEnded (e : Ending) (s : State) : State :=
  match s.hbp.current with
  | none => s
  | some c =>
    let data := if c.txn.dir = .read then takeBeats (Len.cells c.txn.len) (Ending.cells e) else []
    let s1 := if c.cls = .journaled ∧ c.txn.dir = .write then releaseGate s else s
    respond (Ending.refusal e) data s1

end Sys2Proof.Machine
end

