-- ==== Sys2Proof/Machine/Journal.lean ====
section
/-! DEFINITION. The Journal Manager's header writes and wipe (chapter 3): what each header write says, the
copy and generation it takes, its two halves, and the three phases of a wipe. -/

namespace Sys2Proof.Machine

/-! ## What header writes say -/

/-- A CLEAN header: depth 0, top 0, no level entries (R59). -/
def cleanHeader : HeaderFields := ⟨.clean, 0, 0, 0, 0, []⟩

/-- A WIPING header: depth 0, top 0, no level entries (R68). -/
def wipingHeader : HeaderFields := ⟨.wiping, 0, 0, 0, 0, []⟩

/-- A header in state OPEN over the given frames (R13, R66, R77). -/
def openHeader (fs : List Frame) (top : Nat) : HeaderFields :=
  ⟨.opened, fs.length, 0, brokenFlags fs, top, levelEntries fs⟩

/-- A header in state REPLAYING over the given frames (R71, R83). -/
def replayingHeader (fs : List Frame) (target top : Nat) : HeaderFields :=
  ⟨.replaying, fs.length, target, brokenFlags fs, top, levelEntries fs⟩

/-- The opening header of a MARK: the open frames and the new level, which starts at top with the MARK's
tag and is not broken (R11). -/
def markHeader (fs : List Frame) (tag : Word16) (top : Nat) : HeaderFields :=
  ⟨.opened, fs.length + 1, 0, brokenFlags fs, top, levelEntries fs ++ [⟨top, tag⟩]⟩

/-- The header of a stack of the given frames left open at rest: CLEAN with top 0 when there is none, OPEN
otherwise (R13, R66, R77). -/
def restHeader (fs : List Frame) (top : Nat) : HeaderFields :=
  if fs.isEmpty then cleanHeader else openHeader fs top

/-! ## Header writes -/

/-- The copy that the next header write goes to: the other than the current one, or A when none is (R62). -/
def nextCopy (s : State) : Copy :=
  match s.jmg.current with
  | some c => Copy.other c
  | none => .a

/-- The ENGINE write of one half of a header write (R61). -/
def headerHalfRequest (s : State) (w : HeaderWrite) (second : Bool) : MemRequest :=
  engineWrite .headerHalf (headerHalfAddr s.straps w.copy second) .eight
    (cellsOfBytes (slice (headerBytes w.contents) (if second then 32 else 0) 32))

/-- JMG issues a header write: the copy and generation of R62, the contents fixed with the next serial as it
is stored (R54), and the first half presented (R61). -/
def issueHeader (r : HeaderRequest) (s : State) : State :=
  let w : HeaderWrite :=
    { purpose := r.purpose
      copy := nextCopy s
      contents := ⟨s.jmg.generation + 1, r.fields, storeSerial s.jmg.nextSerial⟩
      second := false }
  present (headerHalfRequest s w false)
    { s with jmg := { s.jmg with headerWrite := some w, headerWaiting := none } }

/-- A header write is asked for: it is issued, or waits while another is in flight (R64). None is begun
while a restart is pending (R94). -/
def requestHeader (p : HeaderPurpose) (f : HeaderFields) (s : State) : State :=
  if s.ckc.restartPending then s
  else if s.jmg.headerWrite.isSome then
    { s with jmg := { s.jmg with headerWaiting := some ⟨p, f⟩ } }
  else issueHeader ⟨p, f⟩ s

/-- The header request that waits is issued when none is in flight (R64), unless a restart is pending
(R70, R94). -/
def issueWaitingHeader (s : State) : State :=
  match s.jmg.headerWaiting with
  | some r => if s.jmg.headerWrite.isNone ∧ !s.ckc.restartPending then issueHeader r s else s
  | none => s

/-- No header write is in flight or waiting. -/
def headerIdle (s : State) : Bool := s.jmg.headerWrite.isNone && s.jmg.headerWaiting.isNone

/-- The second half of a header write is issued; a pending restart does not keep it (R61, R162). -/
def issueSecondHalf (w : HeaderWrite) (s : State) : State :=
  present (headerHalfRequest s w true)
    { s with jmg := { s.jmg with headerWrite := some { w with second := true } } }

/-- A header write completes: its copy is current with its generation, and HEADER_STALE is cleared (R62,
R64). The copy has been overwritten whole, so no failed write counts against it (R62; DEDUCED, log 34). -/
def headerCompleted (w : HeaderWrite) (s : State) : State :=
  { s with
    jmg :=
      { s.jmg with
        headerWrite := none
        current := some w.copy
        generation := w.contents.generation
        headerStale := false
        failedCopies := s.jmg.failedCopies.put w.copy false } }

/-- A header write fails in either half: the current copy and the generation stay as they were, and the copy it
reached is marked, to be taken as not valid whatever memory holds (R12, R14, R61, R62, R166). -/
def headerFailed (w : HeaderWrite) (s : State) : State :=
  { s with
    jmg := { s.jmg with headerWrite := none, failedCopies := s.jmg.failedCopies.put w.copy true } }

/-! ## The wipe -/

/-- The ENGINE write of zero bytes over slots c and c + 1 (R68). -/
def wipeRequest (s : State) : MemRequest :=
  engineWrite .wipeSlots (slotAddr s.straps s.jmg.wipeCursor) .eight (zeroCells 8)

/-- The closing phase of a wipe: the next serial becomes 0 and a CLEAN header is asked for (R68). -/
def beginWipeClosing (s : State) : State :=
  requestHeader .wipeClosing cleanHeader { s with jmg := { s.jmg with nextSerial := 0 } }

/-- The slot phase from the present cursor, or the closing phase when every slot has been wiped (R68). -/
def continueWipe (s : State) : State :=
  if s.jmg.wipeCursor < capacity s.straps then presentEngine (wipeRequest s) s else beginWipeClosing s

/-- A wipe begins at the opening phase: top and the wipe cursor are 0 and a WIPING header is asked for
(R67, R68, R101). -/
def beginWipe (s : State) : State :=
  requestHeader .wipeOpening wipingHeader (enterState .wipe { s with jmg := { s.jmg with top := 0, wipeCursor := 0 } })

/-- A wipe begins again at the slot phase with the cursor at 0 (R68, R102). -/
def resumeWipe (s : State) : State :=
  continueWipe (enterState .wipe { s with jmg := { s.jmg with top := 0, wipeCursor := 0 } })

/-- The zeroing write of a slot pair ends: the cursor advances by 2, or the same write is presented again
(R68, R69). -/
def wipeSlotWriteEnded (e : Ending) (s : State) : State :=
  if Ending.isDone e then
    continueWipe { s with jmg := { s.jmg with wipeCursor := s.jmg.wipeCursor + 2 } }
  else presentEngine (wipeRequest s) s

/-- A header write of a wipe ends: the slot phase begins or the wipe ends in READY, or the same header
write is issued again, to the same copy with the same generation (R68, R69). DEDUCED, unsafe (log 35): also when its
second half failed, the header write is issued again from its first half. -/
def wipeHeaderEnded (p : HeaderPurpose) (ok : Bool) (s : State) : State :=
  match p, ok with
  | .wipeOpening, true => continueWipe s
  | .wipeOpening, false => requestHeader .wipeOpening wipingHeader s
  | _, true => enterState .ready s
  | _, false => requestHeader .wipeClosing cleanHeader s

end Sys2Proof.Machine
end

