-- ==== Sys2Proof/Machine/Replay.lean ====
section
/-! DEFINITION. The Replay Engine (chapter 4): the start of an undo, the walk, its halts, retargeting, the
closing header, SKIP, RESUME and ABANDON. -/

namespace Sys2Proof.Machine

/-- RPE goes to a step. -/
def setRpeStep (st : RpeStep) (s : State) : State := { s with rpe := { s.rpe with step := st } }

/-- RPE returns to IDLE and clears the target, cursor, serial bound and record in hand (R78); what a SKIP or
a stopped opening still owed goes with them. -/
def idleRpe (s : State) : State :=
  { s with
    rpe :=
      { s.rpe with
        step := .idle
        target := 0
        cursor := 0
        serialBound := 0
        record := none
        skipOwed := false
        openingOwed := false } }

/-! ## Starting -/

/-- RPE asks JMG for the opening header of the undo, in step OPENING (R71). -/
def requestOpening (s : State) : State :=
  requestHeader .undoOpening (replayingHeader s.ckc.frames s.rpe.target s.jmg.top) (setRpeStep .opening s)

/-- RPE takes a target, a source and the starting serial bound (R71, R72). -/
def loadUndo (target : Nat) (src : Source) (s : State) : State :=
  { s with
    rpe :=
      { s.rpe with
        target := target
        serialBound := s.jmg.nextSerial
        source := src
        retargetPending := false
        partialUndo := false
        record := none
        skipOwed := false
        openingOwed := false } }

/-- The halt reason and halt item become NONE (R71, R72). -/
def clearHalt (s : State) : State := { s with rpe := { s.rpe with haltReason := .none, haltItem := .none } }

/-! ## The walk -/

/-- The top frame is popped: it leaves the stack, the capture set loses the entries of its level and above,
and a broken frame sets partial (R75). -/
def popFrame (s : State) : State :=
  match s.ckc.frames.getLast? with
  | none => s
  | some f =>
    { s with
      ckc := { s.ckc with frames := s.ckc.frames.dropLast }
      cpe := { s.cpe with captureSet := cutSet (depth s) s.cpe.captureSet }
      rpe := { s.rpe with partialUndo := s.rpe.partialUndo || f.broken } }

/-- Test 2 of the walk head: while depth is above t + 1, frames whose start equals top are popped (R73).
`fuel` bounds the number of pops; the depth is enough. -/
def popEmptyLevels : Nat → State → State
  | 0, s => s
  | fuel + 1, s =>
    match s.ckc.frames.getLast? with
    | some f => if depth s > s.rpe.target + 1 ∧ f.start = s.jmg.top then popEmptyLevels fuel (popFrame s) else s
    | none => s

/-- The walk has ended: depth is t + 1 and the top frame's start equals top (R73, test 3). -/
def walkEnded (s : State) : Bool :=
  depth s = s.rpe.target + 1 && (s.ckc.frames.getLast?.map Frame.start) = some s.jmg.top

/-- RPE goes to CLOSING and asks for the closing header over the levels that stay open (R77). -/
def beginClosing (s : State) : State :=
  requestHeader .closing (restHeader (s.ckc.frames.take s.rpe.target) s.jmg.top) (setRpeStep .closing s)

/-- RPE presents the read of the slot at top − 1 and goes to READ (R73, R74). -/
def beginSlotRead (s : State) : State :=
  presentEngine (engineRead .replaySlotRead (slotAddr s.straps (s.jmg.top - 1)) .four)
    { s with rpe := { s.rpe with cursor := s.jmg.top - 1, step := .read } }

/-- RPE goes to RETARGET and asks for the retarget header: state REPLAYING, the present depth and top,
target 0 (R83). -/
def beginRetarget (s : State) : State :=
  requestHeader .retarget (replayingHeader s.ckc.frames 0 s.jmg.top) (setRpeStep .retarget s)

/-- The walk head after test 1: the pops, then the closing header or the next slot read (R73). -/
def walkOn (s : State) : State :=
  let s1 := popEmptyLevels (depth s) s
  if walkEnded s1 then beginClosing s1 else beginSlotRead s1

/-- The walk head (R73). -/
def walkHead (s : State) : State := if s.rpe.retargetPending then beginRetarget s else walkOn s

/-- The replay stops: the halt reason and item, the record in hand discarded, the flag HALT, and CKC in
HALTED (R85). A SKIP that waited for its retarget header has not been made (R87). -/
def haltReplay (why : HaltReason) (item : HaltItem) (s : State) : State :=
  enterState .halted (raise .halt
    { s with
      rpe :=
        { s.rpe with
          step := .halted
          haltReason := why
          haltItem := item
          record := none
          skipOwed := false } })

/-- RPE presents the restore of a record and goes to RESTORE: one cell, all byte enables set (R74). -/
def beginRestore (r : Record) (s : State) : State :=
  presentEngine (engineWrite .restore r.cell .one [r.preImage])
    { s with rpe := { s.rpe with record := some r, step := .restore } }

/-- A replay slot read ends: a slot that passes the four tests of R52 and the serial test is restored; any
other stops the replay (R74). -/
def replaySlotReadEnded (e : Ending) (s : State) : State :=
  match e with
  | .done cells =>
    let bs := bytesOfCells (takeBeats 4 cells)
    let r := recordOfBytes bs
    if slotValidates (journalBase s.straps) bs ∧ r.serial < s.rpe.serialBound then beginRestore r s
    else haltReplay .corruptSlot .slot s
  | _ => haltReplay .memory .slot s

/-- A restore ends: the serial bound is the record's serial, top falls by 1, REPLAYED rises, and RPE returns
to the walk head; or the replay stops (R74). -/
def restoreEnded (e : Ending) (s : State) : State :=
  match s.rpe.record with
  | none => s
  | some r =>
    if Ending.isDone e then
      walkHead (count .replayed 1
        { s with
          jmg := { s.jmg with top := s.jmg.top - 1 }
          rpe := { s.rpe with serialBound := r.serial, record := none } })
    else haltReplay .memory .slot s

/-! ## SKIP, and the ends of RPE's header writes -/

/-- The slot at top − 1 is given up: top falls by 1 and partial is set (R87). -/
def skipSlot (s : State) : State :=
  { s with
    jmg := { s.jmg with top := s.jmg.top - 1 }
    rpe := { s.rpe with partialUndo := true, skipOwed := false } }

/-- The retarget header ends: retarget pending is cleared, an owed SKIP is made, and the walk goes on; or
HEADER_STALE is set and the replay stops (R83, R87). -/
def retargetEnded (ok : Bool) (s : State) : State :=
  if ok then
    let s1 : State := { s with rpe := { s.rpe with retargetPending := false } }
    walkHead (if s.rpe.skipOwed then skipSlot s1 else s1)
  else haltReplay .memory .header (setStale s)

/-- The kind that the last outcome record shows for the undo in hand: the command's own, or for a start-up
replay UNDO_ALL for target 0 and UNDO_TO otherwise (R23). -/
def undoKind (s : State) : CmdKind :=
  match s.ckc.inService with
  | some c => QueueKind.cmdKind c.kind
  | none => if s.rpe.target = 0 then .undoAll else .undoTo

/-- The frame id that the last outcome record shows: the id an UNDO_TO named, otherwise that of the lowest
frame closed or selected (R23). -/
def undoFrameId (s : State) (lowest : Option Frame) : Word16 :=
  match s.ckc.inService with
  | some ⟨_, .undoTo id, _⟩ => id
  | _ => (lowest.map Frame.id).getD 0

/-- The last outcome record of the undo in hand, with its lowest frame closed or selected (R23). -/
def undoOutcome (s : State) (lowest : Option Frame) (o : CmdOutcome) : LastOutcome :=
  ⟨s.rpe.source, undoKind s, (lowest.map Frame.tag).getD 0, undoFrameId s lowest, o⟩

/-- The undo ends with an outcome: the outcome is recorded and the flag DONE set with it (R175), RPE is idle, the
command out of service, and CKC in READY (R20, R78). While a restart is pending neither the record nor DONE is
written (R25, R89); which consequences that leaves is DEDUCED (log 33). -/
def endUndo (lowest : Option Frame) (o : CmdOutcome) (s : State) : State :=
  let r := undoOutcome s lowest o
  completeCommand r .ready (idleRpe (raiseIf (!s.ckc.restartPending) .done s))

/-- The closing header ends: HEADER_STALE is set if it failed, level t + 1 is popped in either case, and the
undo ends or, with retarget pending, goes on (R77, R78). -/
def closingEnded (ok : Bool) (s : State) : State :=
  let lowest := s.ckc.frames.getLast?
  let s1 := popFrame (if ok then s else setStale s)
  if s1.rpe.retargetPending then walkHead s1
  else endUndo lowest (if s1.rpe.partialUndo then .donePartial else .done) s1

/-- The opening header of an undo ends: the walk begins; or a start-up replay stops (R72), or the command
completes HEADER_FAILED with nothing changed, and a FAULT that fell meanwhile sets the fault request (R71). DEDUCED,
unsafe (log 36): retarget pending is cleared when it is handed over to the fault request. -/
def undoOpeningEnded (ok : Bool) (s : State) : State :=
  if ok then walkHead (clearHalt { s with rpe := { s.rpe with openingOwed := false } })
  else if s.rpe.source = .start then
    haltReplay .memory .header { s with rpe := { s.rpe with openingOwed := true } }
  else
    let selected := (s.ckc.inService.map InService.target).getD 0
    let s1 : State :=
      { s with
        ckc := { s.ckc with faultRequest := s.ckc.faultRequest || s.rpe.retargetPending }
        rpe := { s.rpe with retargetPending := false } }
    endUndo (s.ckc.frames[selected]?) .headerFailed s1

/-- ABANDON's header ends: every frame is popped and the undo ends ABANDONED; or HEADER_STALE is set and RPE
returns to HALTED (R88). -/
def abandonEnded (ok : Bool) (s : State) : State :=
  if ok then
    endUndo s.ckc.frames.head? .abandoned
      { s with
        ckc := { s.ckc with frames := [] }
        cpe := { s.cpe with captureSet := [] }
        jmg := { s.jmg with top := 0 }
        rpe := { s.rpe with retargetPending := false, partialUndo := false } }
  else setRpeStep .halted (setStale s)

/-- A SYNC write ends: when it completes with target 0 while retarget pending is set, it has carried the
retarget (R66, R84). -/
def syncEnded (w : HeaderWrite) (ok : Bool) (s : State) : State :=
  if ok && w.contents.fields.state = .replaying && w.contents.fields.target = 0 then
    { s with rpe := { s.rpe with retargetPending := false } }
  else s

/-! ## FAULT and the commands of HALTED -/

/-- A fault event lowers the target to 0 and sets retarget pending, unless the target is 0 already (R82,
R84). -/
def retargetUndo (s : State) : State :=
  if s.rpe.target = 0 then s else { s with rpe := { s.rpe with target := 0, retargetPending := true } }

/-- RESUME, SKIP and ABANDON are accepted in HALTED with no header write in flight or waiting and no restart
pending (R86). -/
def haltCommandAllowed (s : State) : Bool :=
  s.ckc.state = .halted && headerIdle s && !s.ckc.restartPending

/-- RESUME: back to REPLAY, to the walk head, or to the opening header of a start-up replay (R87). -/
def resumeReplay (s : State) : State :=
  let s1 := enterState .replay s
  if s.rpe.openingOwed then requestOpening s1 else walkHead s1

/-- SKIP: back to REPLAY; the retarget header first when retarget pending is set, then the slot at top − 1 is
given up (R87). -/
def skipReplay (s : State) : State :=
  let s1 := enterState .replay s
  if s.rpe.retargetPending then beginRetarget { s1 with rpe := { s1.rpe with skipOwed := true } }
  else walkHead (skipSlot s1)

/-- ABANDON: RPE goes to ABANDONING and asks for a CLEAN header; CKC stays in HALTED (R88). -/
def abandonReplay (s : State) : State := requestHeader .abandon cleanHeader (setRpeStep .abandoning s)

end Sys2Proof.Machine
end

