-- ==== Sys2Proof/Machine/Checkpoint.lean ====
section
/-! DEFINITION. The Checkpoint Controller (chapter 1): taking a command, the checks and header writes of
MARK, KEEP and the undo kinds, their completion, and the fault request. -/

namespace Sys2Proof.Machine

/-! ## Taking -/

/-- CKC takes commands in these states (R1, R7). -/
def takesCommands : CtrlState → Bool
  | .ready | .await | .unformatted | .bypass => true
  | _ => false

/-- The fault request keeps commands waiting in READY and AWAIT (R7). -/
def faultRequestWaits (s : State) : Bool :=
  s.ckc.faultRequest && (s.ckc.state = .ready || s.ckc.state = .await)

/-- CKC may take the oldest entry (R7), and no restart is pending (R94). -/
def canTakeCommand (s : State) : Bool :=
  takesCommands s.ckc.state && s.ckc.inService.isNone && !s.ckc.gateHeld && !faultRequestWaits s
    && !s.ckc.restartPending && !s.resetHeld

/-- The tag that the record of a command shows when no level was selected: the MARK's tag, 0 otherwise (R23). -/
def QueueKind.tag : QueueKind → Word16
  | .mark tag => tag
  | _ => 0

/-- The frame id that the record of a command shows when no level was selected: the next frame id for a MARK,
the id named for an UNDO_TO, 0 otherwise (R23). -/
def QueueKind.frameId (next : Word16) : QueueKind → Word16
  | .mark _ => next
  | .undoTo id => id
  | _ => 0

/-- The last outcome record of a command that its checks decide, with no level selected (R23). -/
def checkedOutcome (e : QueueEntry) (o : CmdOutcome) (s : State) : LastOutcome :=
  ⟨QueueSource.source e.source, QueueKind.cmdKind e.kind, QueueKind.tag e.kind,
    QueueKind.frameId s.ckc.nextFrameId e.kind, o⟩

/-- A command decided by its checks completes at the moment it is taken; AWAIT is left for READY, and
UNFORMATTED and BYPASS stay (R2, R7). -/
def completeAtOnce (e : QueueEntry) (o : CmdOutcome) (s : State) : State :=
  completeCommand (checkedOutcome e o s) (if s.ckc.state = .await then .ready else s.ckc.state) s

/-- A command enters service with the target depth it selected. -/
def enterService (e : QueueEntry) (target : Nat) (s : State) : State :=
  { s with ckc := { s.ckc with inService := some ⟨QueueSource.source e.source, e.kind, target⟩ } }

/-- A MARK moves CKC to ENTER with its opening header write (R11). -/
def startMark (e : QueueEntry) (tag : Word16) (s : State) : State :=
  requestHeader .markOpening (markHeader s.ckc.frames tag s.jmg.top) (enterState .enter (enterService e 0 s))

/-- A KEEP moves CKC to MERGE with its header write, which describes the stack without the top level (R13). -/
def startKeep (e : QueueEntry) (s : State) : State :=
  requestHeader .keepHeader (restHeader s.ckc.frames.dropLast s.jmg.top) (enterState .merge (enterService e 0 s))

/-- An undo moves CKC to REPLAY and hands its target to RPE, which asks for the opening header (R20, R71). -/
def startUndo (c : InService) (s : State) : State :=
  requestOpening (loadUndo c.target c.source
    (enterState .replay { s with ckc := { s.ckc with inService := some c } }))

/-- The lowest open level whose frame has an id, as an index from 0 (R18). -/
def levelOfId (id : Word16) (fs : List Frame) : Option Nat := fs.findIdx? fun f => f.id == id

/-- The target depth that an undo kind selects, or none when it selects no level (R17, R18). -/
def undoTarget (s : State) : QueueKind → Option Nat
  | .undo => if depth s = 0 then none else some (depth s - 1)
  | .undoAll => if depth s = 0 then none else some 0
  | .undoTo id => levelOfId id s.ckc.frames
  | _ => none

/-- A command taken in READY or AWAIT (R11, R13, R17, R18). -/
def takeOpen (e : QueueEntry) (s : State) : State :=
  match e.kind with
  | .mark tag => if depth s = Config.maxDepth then completeAtOnce e .depthLimit s else startMark e tag s
  | .keep => if depth s = 0 then completeAtOnce e .noLevel s else startKeep e s
  | .undo | .undoAll | .undoTo _ =>
    match undoTarget s e.kind with
    | some t => startUndo ⟨QueueSource.source e.source, e.kind, t⟩ s
    | none => completeAtOnce e (match e.kind with | .undoTo _ => .stale | _ => .noLevel) s

/-- The outcome of a command taken in UNFORMATTED (R21). -/
def unformattedOutcome : QueueKind → CmdOutcome
  | .mark _ => .unformatted
  | .keep | .undo | .undoAll => .noLevel
  | .undoTo _ => .stale

/-- A command taken, by the controller state (R21). -/
def takeEntry (e : QueueEntry) (s : State) : State :=
  match s.ckc.state with
  | .unformatted => completeAtOnce e (unformattedOutcome e.kind) s
  | .bypass => completeAtOnce e .bypassed s
  | _ => takeOpen e s

/-- CKC takes the oldest entry of the queue, if it may (R7). -/
def takeCommand (s : State) : State :=
  match s.ckc.queue with
  | [] => s
  | e :: rest =>
    if canTakeCommand s then takeEntry e { s with ckc := { s.ckc with queue := rest } } else s

/-! ## The fault request -/

/-- CKC may act on the fault request: READY or AWAIT with no JOURNALED write holding the gate (R10), and no
restart pending (R94). -/
def canActOnFault (s : State) : Bool :=
  s.ckc.faultRequest && (s.ckc.state = .ready || s.ckc.state = .await) && !s.ckc.gateHeld
    && !s.ckc.restartPending && !s.resetHeld

/-- CKC acts on the fault request: it clears it and, at depth 1 or more, starts an undo to depth 0 with
source FAULT (R10). -/
def actOnFault (s : State) : State :=
  if canActOnFault s then
    let s1 : State := { s with ckc := { s.ckc with faultRequest := false } }
    if depth s = 0 then s1 else startUndo ⟨.fault, .undoAll, 0⟩ s1
  else s

/-! ## The ends of MARK and KEEP -/

/-- The frame that a completed MARK pushes (R4, R12). -/
def newFrame (src : Source) (tag : Word16) (s : State) : Frame where
  level := depth s + 1
  start := s.jmg.top
  tag := tag
  id := s.ckc.nextFrameId
  origin := if src = .strobe then .strobe else .service
  age := 0
  warned := false
  expired := false
  broken := false

/-- A frame is pushed and takes the next frame id, which increments (R5, R12). -/
def pushFrame (f : Frame) (s : State) : State :=
  { s with ckc := { s.ckc with frames := s.ckc.frames ++ [f], nextFrameId := s.ckc.nextFrameId + 1 } }

/-- The last outcome record of the command in service, with a tag and a frame id. -/
def serviceOutcome (c : InService) (tag id : Word16) (o : CmdOutcome) : LastOutcome :=
  ⟨c.source, QueueKind.cmdKind c.kind, tag, id, o⟩

/-- The MARK's header write ends: the frame is pushed with outcome DONE, or the MARK completes HEADER_FAILED
with nothing changed (R12). Depth never passes 8 (R3). -/
def markEnded (ok : Bool) (s : State) : State :=
  match s.ckc.inService with
  | none => s
  | some c =>
    let tag := QueueKind.tag c.kind
    if ok ∧ depth s < Config.maxDepth then
      completeCommand (serviceOutcome c tag s.ckc.nextFrameId .done) .ready
        (pushFrame (newFrame c.source tag s) s)
    else completeCommand (serviceOutcome c tag s.ckc.nextFrameId .headerFailed) .ready s

/-- A KEEP closes the top level: of level 1, top becomes 0 and the capture set is emptied (R16); of a level
above, the set is relabelled (R15). -/
def mergeTop (s : State) : State :=
  let s1 : State := { s with ckc := { s.ckc with frames := s.ckc.frames.dropLast } }
  if depth s ≤ 1 then
    { s1 with
      jmg := { s1.jmg with top := 0 }
      cpe := { s1.cpe with captureSet := [] } }
  else { s1 with cpe := { s1.cpe with captureSet := relabelSet (depth s) s1.cpe.captureSet } }

/-- The KEEP's header write ends: the top level is merged or committed with outcome DONE (R15, R16), or the
KEEP completes HEADER_FAILED with nothing changed (R14). The record shows the tag and id of the top frame
(R23). -/
def keepEnded (ok : Bool) (s : State) : State :=
  match s.ckc.inService, s.ckc.frames.getLast? with
  | some c, some f =>
    if ok then completeCommand (serviceOutcome c f.tag f.id .done) .ready (mergeTop s)
    else completeCommand (serviceOutcome c f.tag f.id .headerFailed) .ready s
  | _, _ => s

/-! ## The end of a header half -/

/-- What the end of a header write means for the block that asked for it (R64). -/
def headerConsequence (w : HeaderWrite) (ok : Bool) (s : State) : State :=
  match w.purpose with
  | .markOpening => markEnded ok s
  | .keepHeader => keepEnded ok s
  | .undoOpening => undoOpeningEnded ok s
  | .retarget => retargetEnded ok s
  | .closing => closingEnded ok s
  | .abandon => abandonEnded ok s
  | .sync => syncEnded w ok s
  | .wipeOpening | .wipeClosing => wipeHeaderEnded w.purpose ok s

/-- A header half write ends: the second half follows a completed first half; otherwise the header write
completes or fails, its requester acts, and a request that waited is issued (R61, R62, R64). -/
def headerHalfEnded (e : Ending) (s : State) : State :=
  match s.jmg.headerWrite with
  | none => s
  | some w =>
    if Ending.isDone e then
      if w.second then issueWaitingHeader (headerConsequence w true (headerCompleted w s))
      else issueSecondHalf w s
    else issueWaitingHeader (headerConsequence w false (headerFailed w s))

/-! ## Immediate commands of the journal and the controller -/

/-- SYNC is accepted with HEADER_STALE set, in READY or HALTED, with no header write in flight or waiting and
no restart pending (R66). -/
def syncAllowed (s : State) : Bool :=
  s.jmg.headerStale && (s.ckc.state = .ready || s.ckc.state = .halted) && headerIdle s && !s.ckc.restartPending

/-- SYNC rewrites the header from the stack as it stands (R66). -/
def syncHeader (s : State) : State :=
  requestHeader .sync
    (if s.ckc.state = .halted then replayingHeader s.ckc.frames s.rpe.target s.jmg.top
     else restHeader s.ckc.frames s.jmg.top) s

/-- FORMAT is accepted in READY at depth 0, in UNFORMATTED and in AWAIT, with no header write in flight or
waiting and no restart pending (R67). -/
def formatAllowed (s : State) : Bool :=
  (s.ckc.state = .ready && depth s = 0 || s.ckc.state = .unformatted || s.ckc.state = .await)
    && headerIdle s && !s.ckc.restartPending

/-- FORMAT: recovered frames are popped without replay, the capture set is emptied, and a wipe begins (R67). -/
def formatJournal (s : State) : State :=
  beginWipe (emptyCaptureSet { s with ckc := { s.ckc with frames := [] } })

/-- QUIESCE is accepted in READY with nothing in progress (R107). -/
def quiesceAllowed (s : State) : Bool :=
  s.ckc.state = .ready && s.ckc.queue.isEmpty && s.ckc.inService.isNone && !s.ckc.faultRequest
    && s.hbp.current.isNone && headerIdle s && s.svp.slotLoad.isNone && !s.ckc.restartPending

/-- RESTART becomes pending, and RPE and JMG withdraw the requests they have waiting, but for header halves
(R94, R162). -/
def beginRestart (s : State) : State :=
  { s with
    ckc := { s.ckc with restartPending := true }
    mbp :=
      { s.mbp with
        waitEngine := s.mbp.waitEngine.filter fun r => r.purpose = .headerHalf } }

end Sys2Proof.Machine
end

