-- ==== Sys2Proof/Machine/Startup.lean ====
section
/-! DEFINITION. Start-up (chapter 5): the resets, SCAN with its header selection and slot scan, and the
recovery that follows. -/

namespace Sys2Proof.Machine

/-! ## SCAN's header reads -/

/-- The ENGINE read of the k-th header half: copy A then copy B, each in two halves (R95). -/
def scanHeaderRequest (s : State) (k : Nat) : MemRequest :=
  engineRead .scanHeaderRead (headerHalfAddr s.straps (if k < 2 then .a else .b) (k % 2 = 1)) .eight

/-- SCAN begins with the first header read, or BYPASS is entered without reading memory under RP = 3 (R95,
R104). -/
def beginScan (s : State) : State :=
  if policy s.straps = .bypass then enterState .bypass s
  else
    presentEngine (scanHeaderRequest s 0) { s with jmg := { s.jmg with scan := .headers 0 [] } }

/-! ## The slot scan -/

/-- The frame rebuilt for level `i` + 1 from the selected header (R97). -/
def rebuiltFrame (h : Header) (id : Word16) (i : Nat) (e : LevelEntry) : Frame where
  level := i + 1
  start := e.start
  tag := e.tag
  id := id
  origin := .recovered
  age := 0
  warned := false
  expired := false
  broken := h.fields.broken.getLsbD i

/-- The frames of levels `i` + 1 upward, each with the next frame id (R5, R97). -/
def rebuiltFrames (h : Header) : Word16 → Nat → List LevelEntry → List Frame
  | _, _, [] => []
  | id, i, e :: es => rebuiltFrame h id i e :: rebuiltFrames h (id + 1) (i + 1) es

/-- CKC rebuilds the frame stack from the selected header (R97). -/
def rebuildFrames (h : Header) (s : State) : State :=
  { s with
    ckc :=
      { s.ckc with
        frames := rebuiltFrames h s.ckc.nextFrameId 0 h.fields.entries
        nextFrameId := s.ckc.nextFrameId + BitVec.ofNat 16 h.fields.entries.length } }

/-- The next serial at the end of SCAN (R98). -/
def scannedSerial (stored : Nat) (last : Option Nat) : Nat :=
  match last with
  | none => takeSerial stored
  | some n => max (takeSerial stored) (n + 1)

/-- A start-up replay is handed to RPE in RECOVER: with an opening header to target 0 for an OPEN header,
straight to the walk for a REPLAYING one (R72, R99, R102). -/
def startReplay (h : Header) (s : State) : State :=
  let s1 := clearHalt (loadUndo h.fields.target .start (enterState .recover s))
  if h.fields.state = .replaying then walkHead s1 else requestOpening s1

/-- The scan ends at the live top: top and the next serial are set, and recovery begins as the policy says
(R98 to R100, R102). -/
def endSlotScan (liveTop : Nat) (last : Option Nat) (h : Header) (s : State) : State :=
  let s1 : State :=
    { s with
      jmg := { s.jmg with top := liveTop, nextSerial := scannedSerial h.serial last, scan := .idle } }
  if h.fields.state = .opened ∧ policy s.straps = .hold then enterState .await s1 else startReplay h s1

/-- The ENGINE read of slot `i` of the start-up scan (R97). -/
def scanSlotRequest (s : State) (i : Nat) : MemRequest := engineRead .scanSlotRead (slotAddr s.straps i) .four

/-- The scan examines slot `i`: it is read when its index is below capacity, and otherwise the scan ends with
the live top at capacity (R97). -/
def examineSlot (i : Nat) (last : Option Nat) (h : Header) (s : State) : State :=
  if i < capacity s.straps then
    presentEngine (scanSlotRequest s i) { s with jmg := { s.jmg with scan := .slots i last h } }
  else endSlotScan i last h s

/-- A slot is accepted by the scan (R97). -/
def slotAccepted (base : Nat) (h : Header) (last : Option Nat) (bs : List Byte) : Bool :=
  let n := (recordOfBytes bs).serial
  slotValidates base bs && h.serial ≤ n && (match last with | some m => m < n | none => true)

/-- A slot read of the scan ends: the slot is accepted and the next examined, or ends the scan; a failed read
is presented again (R97). -/
def scanSlotReadEnded (e : Ending) (s : State) : State :=
  match s.jmg.scan with
  | .slots i last h =>
    match e with
    | .done cells =>
      let bs := bytesOfCells (takeBeats 4 cells)
      if slotAccepted (journalBase s.straps) h last bs then
        examineSlot (i + 1) (some (recordOfBytes bs).serial) h s
      else endSlotScan i last h s
    | _ => presentEngine (scanSlotRequest s i) s
  | _ => s

/-! ## Header selection -/

/-- The next serial of a path that scans no slot (R98, R101, R102). -/
def setSerial (n : Nat) (s : State) : State := { s with jmg := { s.jmg with nextSerial := n } }

/-- The path that a selected header and the policy decide (R96). -/
def followHeader (h : Header) (s : State) : State :=
  match h.fields.state with
  | .clean => enterState .ready (setSerial (takeSerial h.serial) s)
  | .opened =>
    if policy s.straps = .discard then beginWipe (setSerial (takeSerial h.serial) s)
    else examineSlot h.fields.top none h (rebuildFrames h s)
  | .replaying => examineSlot h.fields.top none h (rebuildFrames h s)
  | .wiping => resumeWipe (setSerial (takeSerial h.serial) s)

/-- The path when no copy is valid: a wipe under DISCARD, UNFORMATTED otherwise (R96, R101, R103). -/
def followNoHeader (s : State) : State :=
  if policy s.straps = .discard then beginWipe (setSerial 0 s) else enterState .unformatted (setSerial 0 s)

/-- The header of a copy that SCAN has read: that of 64 bytes which pass the tests of R60, and none, whatever the
bytes are, for a copy that a failed write has reached (R61). -/
def scannedHeader (s : State) (c : Copy) (bs : List Byte) : Option Header :=
  if s.jmg.failedCopies.has c then none else validHeader (capacity s.straps) bs

/-- Header selection: the current copy and the header generation are those of the copy selected, and its
state and the policy decide the path (R96). -/
def selectHeader (bytes : List Byte) (s : State) : State :=
  match selectCopy (scannedHeader s .a (bytes.take 64)) (scannedHeader s .b (bytes.drop 64)) with
  | some (copy, h) =>
    followHeader h
      { s with jmg := { s.jmg with current := some copy, generation := h.generation, scan := .idle } }
  | none =>
    followNoHeader { s with jmg := { s.jmg with current := none, generation := 0, scan := .idle } }

/-- A header half read of SCAN ends: the next read follows, or selection when both copies have been read; a
failed read is presented again (R95, R96). -/
def scanHeaderReadEnded (e : Ending) (s : State) : State :=
  match s.jmg.scan with
  | .headers k bytes =>
    match e with
    | .done cells =>
      let bytes' := bytes ++ bytesOfCells (takeBeats 8 cells)
      if k + 1 < 4 then
        presentEngine (scanHeaderRequest s (k + 1))
          { s with jmg := { s.jmg with scan := .headers (k + 1) bytes' } }
      else selectHeader bytes' s
    | _ => presentEngine (scanHeaderRequest s k) s
  | _ => s

/-! ## The resets -/

/-- The request the host still presents after a reset, which is UNTAKEN again (R127). -/
def presentedAgain (c : Option Current) : Option Current :=
  c.map fun c => ⟨c.txn, .untaken, .pass, .refuse⟩

/-- POR or RSTN: every block takes its POR value and the reset holds the part. The straps stand until the
reset ends, and the host goes on presenting its request (R93, R127). -/
def takeReset (s : State) : State :=
  { State.reset with
    straps := s.straps
    hbp := { Hbp.reset with current := presentedAgain s.hbp.current }
    pending := s.pending }

/-- The reset ends: the straps are sampled, the threshold is set from them, the bus stands in SETTLE with its
reset values, and SCAN begins (R92, R93, R171). -/
def endReset (straps : Straps) (s : State) : State :=
  if s.resetHeld then
    beginScan
      { s with
        straps := straps
        resetHeld := false
        jmg := { s.jmg with highWater := highWaterReset straps }
        mbp := Mbp.reset }
  else s

/-- The work in flight has ended, so that a pending restart takes effect (R94, R162). -/
def restartReady (s : State) : Bool :=
  s.ckc.restartPending
    && (match s.hbp.current with
        | some c => c.disposition ≠ .service && c.disposition ≠ .capture
        | none => true)
    && s.jmg.headerWrite.isNone && s.mbp.outstanding.isNone
    && s.mbp.waitHost.isNone && s.mbp.waitEngine.isNone && s.mbp.waitService.isNone

/-- The RESTART values of CKC (R25). -/
def Ckc.restarted (c : Ckc) : Ckc :=
  { Ckc.reset with nextFrameId := c.nextFrameId, last := c.last }

/-- The RESTART values of JMG (R70). The copies that a failed write has reached stay marked (R61; DEDUCED, unsafe,
log 34). -/
def Jmg.restarted (j : Jmg) : Jmg :=
  { Jmg.reset with highWater := j.highWater, failedCopies := j.failedCopies }

/-- The RESTART values of RPE: the halt reason and item are kept (R91). -/
def Rpe.restarted (r : Rpe) : Rpe := { Rpe.reset with haltReason := r.haltReason, haltItem := r.haltItem }

/-- The RESTART values of HBP: a transaction in GATE becomes HELD, one HELD or UNTAKEN stays (R127, R128). -/
def Hbp.restarted (h : Hbp) : Hbp :=
  { h with
    current := h.current.map fun c => if c.disposition = .gate then { c with disposition := .held } else c }

/-- The RESTART values of SIU (R148). -/
def Siu.restarted (u : Siu) : Siu := { u with wakeList := [], wakeFault := false }

/-- The RESTART values of ATU (R159). -/
def Atu.restarted (a : Atu) : Atu :=
  { a with prescaler := 0, divider := 0, owed := Vector.replicate 8 none }

/-- The RESTART values of ACU: the flags are cleared (R183). -/
def Acu.restarted (a : Acu) : Acu := { a with flags := 0 }

/-- The RESTART values of SVP: staging and snapshots are discarded (R197). -/
def Svp.restarted (v : Svp) : Svp := { v with staging := [], snapshots := [] }

/-- The pending restart takes effect: every block takes its RESTART value and SCAN begins (R94). -/
def restartState (s : State) : State :=
  if restartReady s then
    beginScan
      { s with
        ckc := Ckc.restarted s.ckc
        cpe := Cpe.reset
        jmg := Jmg.restarted s.jmg
        rpe := Rpe.restarted s.rpe
        hbp := Hbp.restarted s.hbp
        siu := Siu.restarted s.siu
        atu := Atu.restarted s.atu
        acu := Acu.restarted s.acu
        svp := Svp.restarted s.svp }
  else s

end Sys2Proof.Machine
end

