-- ==== Sys2Proof/Machine/StrobeTimer.lean ====
section
/-! DEFINITION. The Strobe Input Unit and the Age Timer Unit (chapters 7 and 8): strobe edges, fault events,
the wake list, and ticks with ageing, warnings, expiries and owed arrivals. -/

namespace Sys2Proof.Machine

/-! ## Wake -/

/-- A waking event in DORMANT starts the wake, unless one is in progress (R109). -/
def startWake (s : State) : State :=
  if s.ckc.waking then s else { s with ckc := { s.ckc with waking := true, wakeCount := 0 } }

/-! ## Strobe edges -/

/-- The edge selection of a strobe line (R129). -/
def selectedEdge (u : Siu) : StrobeLine → Edge
  | .mark => u.markEdge
  | .keep => u.keepEdge
  | .undo => u.undoEdge

/-- A selected edge as a wake-list entry: a MARK edge takes the strobe tag (R131, R146). -/
def strobeEntry (line : StrobeLine) (u : Siu) : WakeEntry :=
  match line with
  | .mark => .mark u.strobeTag
  | .keep => .keep
  | .undo => .undo

/-- The queue kind of a wake-list entry (R146). -/
def WakeEntry.kind : WakeEntry → QueueKind
  | .mark tag => .mark tag
  | .keep => .keep
  | .undo => .undo

/-- A selected MARK edge increments the strobe tag counter, whatever becomes of its arrival (R131). -/
def consumeTag (line : StrobeLine) (s : State) : State :=
  match line with
  | .mark => { s with siu := { s.siu with strobeTag := s.siu.strobeTag + 1 } }
  | _ => s

/-- A strobe edge seen during a wake joins the wake list, or is dropped when the list is full (R146). -/
def listWakeEntry (e : WakeEntry) (s : State) : State :=
  if s.siu.wakeList.length < Config.wakeListCapacity then
    { s with siu := { s.siu with wakeList := s.siu.wakeList ++ [e] } }
  else count .strobesLost 1 (raise .lost s)

/-- An edge of a strobe line is seen: a selected one makes an arrival, or in DORMANT wakes the part and joins
the wake list (R129 to R131, R146). -/
def seeStrobe (line : StrobeLine) (edge : Edge) (s : State) : State :=
  if s.resetHeld || selectedEdge s.siu line ≠ edge then s
  else
    let e := strobeEntry line s.siu
    let s1 := consumeTag line s
    if s.ckc.state = .dormant then startWake (listWakeEntry e s1) else strobeArrival (WakeEntry.kind e) s1

/-! ## Fault events -/

/-- What a fault event with action UNDO_ALL does in a controller state (R140). -/
inductive FaultEffect where
  | flagOnly
  | request
  | retarget
  deriving DecidableEq, Repr

/-- The table of R140. -/
def faultEffect (s : State) : FaultEffect :=
  match s.ckc.state with
  | .await | .enter | .merge => .request
  | .ready => if depth s = 0 then .flagOnly else .request
  | .replay | .halted => .retarget
  | .scan | .recover | .unformatted | .wipe | .dormant | .bypass => .flagOnly

/-- The fault request is set (R10). -/
def setFaultRequest (s : State) : State := { s with ckc := { s.ckc with faultRequest := true } }

/-- A fault event is taken: the flag FAULT, and with action UNDO_ALL the effect of the controller state
(R139, R140). -/
def takeFault (s : State) : State :=
  let s1 := raise .fault s
  match s.siu.faultAction with
  | .alertOnly => s1
  | .undoAll =>
    match faultEffect s with
    | .flagOnly => s1
    | .request => setFaultRequest (discardQueue s1)
    | .retarget => retargetUndo (discardQueue s1)

/-- An edge of the FAULT line is seen: of the selected polarity it is a fault event, which in DORMANT wakes
the part and is held as the wake fault (R139, R146). -/
def seeFault (edge : Edge) (s : State) : State :=
  if s.resetHeld || s.siu.faultPolarity ≠ edge then s
  else if s.ckc.state = .dormant then
    let s1 := raise .fault s
    startWake { s1 with siu := { s1.siu with wakeFault := true } }
  else takeFault s

/-! ## What the wake held -/

/-- Strobe arrivals in the order of a list (R146). -/
def arriveAll : List WakeEntry → State → State
  | [], s => s
  | e :: es, s => arriveAll es (strobeArrival (WakeEntry.kind e) s)

/-- The wake list's entries arrive, and the list is empty (R146). -/
def arriveWakeList (s : State) : State :=
  arriveAll s.siu.wakeList { s with siu := { s.siu with wakeList := [] } }

/-- The wake fault, if it is set, is cleared and taken as in READY (R146). -/
def takeWakeFault (s : State) : State :=
  if s.siu.wakeFault then takeFault { s with siu := { s.siu with wakeFault := false } } else s

/-! ## Ticks -/

/-- An age one tick older; 65535 stays (R150). -/
def olderAge (a : Word16) : Word16 := if a = 0xFFFF then a else a + 1

/-- A frame one tick older, its thresholds not tested (R150, step 1). -/
def Frame.aged (f : Frame) : Frame := { f with age := olderAge f.age }

/-- The frame is warned at this tick (R152). -/
def warnsNow (a : Atu) (f : Frame) : Bool := !f.warned && a.warnAt ≤ olderAge f.age

/-- The frame expires at this tick (R153). -/
def expiresNow (a : Atu) (f : Frame) : Bool := !f.expired && a.expireAt ≤ olderAge f.age

/-- A frame after the three steps of a tick (R150). -/
def Frame.ticked (a : Atu) (f : Frame) : Frame :=
  { f with
    age := olderAge f.age
    warned := f.warned || warnsNow a f
    expired := f.expired || expiresNow a f }

/-- A timer arrival joins the queue and empties the level's owed mark, or is dropped and owed (R134, R154). -/
def timerArrival (i : Nat) (id : Word16) (s : State) : State :=
  if queueHasRoom s then
    enqueue ⟨.timer, .undoTo id⟩
      { s with atu := { s.atu with owed := s.atu.owed.setIfInBounds i none } }
  else { s with atu := { s.atu with owed := s.atu.owed.setIfInBounds i (some id) } }

/-- The owed mark of level `i` + 1. -/
def owedMark (a : Atu) (i : Nat) : Option Word16 := (a.owed[i]?).join

/-- The arrival or the stale mark of level `i` + 1 at the end of a tick. `fresh` lists the levels, as indexes
from 0, that expired at this tick under action UNDO_TO (R154). -/
def owedArrival (fresh : List Nat) (i : Nat) (s : State) : State :=
  match s.ckc.frames[i]? with
  | none => { s with atu := { s.atu with owed := s.atu.owed.setIfInBounds i none } }
  | some f =>
    if fresh.contains i || (s.atu.action = .undoTo && owedMark s.atu i = some f.id) then timerArrival i f.id s
    else
      match owedMark s.atu i with
      | none => s
      | some id =>
        if s.ckc.frames.any (fun g => g.id == id) then s
        else { s with atu := { s.atu with owed := s.atu.owed.setIfInBounds i none } }

/-- The arrivals that a tick owes, level 1 upward (R154). -/
def owedArrivals (fresh : List Nat) : List Nat → State → State
  | [], s => s
  | i :: is, s => owedArrivals fresh is (owedArrival fresh i s)

/-- The levels that expire at this tick under action UNDO_TO, as indexes from 0 (R153). -/
def freshExpiries (s : State) : List Nat :=
  (List.range (depth s)).filter fun i =>
    s.atu.action = .undoTo && ((s.ckc.frames[i]?).map (expiresNow s.atu)).getD false

/-- The open frames are aged, and tested against both thresholds (R150, R152, R153). -/
def ageFrames (s : State) : State :=
  let s1 : State := { s with ckc := { s.ckc with frames := s.ckc.frames.map (Frame.ticked s.atu) } }
  raiseIf (s.ckc.frames.any (expiresNow s.atu)) .expire
    (raiseIf (s.ckc.frames.any (warnsNow s.atu)) .warn s1)

/-- What happens at a tick: the frames age, and outside a start-up the thresholds are tested and the owed
arrivals made (R150, R154). -/
def tickEffect (s : State) : State :=
  if s.ckc.startUp then
    { s with ckc := { s.ckc with frames := s.ckc.frames.map Frame.aged } }
  else owedArrivals (freshExpiries s) (List.range 8) (ageFrames s)

/-- The timebase runs: the enable is ON and CKC is not in DORMANT (R149, R157). -/
def timebaseRuns (s : State) : Bool := s.atu.enable && s.ckc.state ≠ .dormant && !s.resetHeld

/-- A tick occurs, if the timebase runs: prescaler and divider return to 0 (R149). -/
def takeTick (s : State) : State :=
  if timebaseRuns s then tickEffect { s with atu := { s.atu with prescaler := 0, divider := 0 } } else s

/-- One REFCLK period of the timebase (R149). -/
def timebasePeriod (s : State) : State :=
  if !timebaseRuns s then s
  else if s.atu.prescaler + 1 < Config.periodsPerMicrosecond then
    { s with atu := { s.atu with prescaler := s.atu.prescaler + 1 } }
  else if s.atu.divider + 1 < 2 ^ s.atu.tickSel.toNat then
    { s with atu := { s.atu with prescaler := 0, divider := s.atu.divider + 1 } }
  else takeTick s

end Sys2Proof.Machine
end

