-- ==== Sys2Proof/Machine/Registers.lean ====
section
/-! DEFINITION. The register map and what each register reads (R200), and what a write of each register does
when it takes effect (chapter 11 and the owning blocks' rules), with the commands of CMD (R190). -/

namespace Sys2Proof.Machine

/-! ## The register map -/

/-- One row of the register map: the page (none is every page), the lowest index, the register and its
length in bytes (R200). -/
structure RegRow where
  page : Option Nat
  index : Nat
  reg : Reg
  bytes : Nat
  deriving DecidableEq, Repr

/-- Page 0 of the register map, with PAGE (R200). -/
def mapPage0 : List RegRow :=
  [⟨none, 0x00, .page, 1⟩, ⟨some 0, 0x01, .id, 1⟩, ⟨some 0, 0x02, .rev, 1⟩, ⟨some 0, 0x03, .cstate, 1⟩,
   ⟨some 0, 0x04, .depth, 1⟩, ⟨some 0, 0x05, .qcount, 1⟩, ⟨some 0, 0x06, .top, 2⟩,
   ⟨some 0, 0x08, .capacity, 2⟩, ⟨some 0, 0x0A, .highwater, 2⟩, ⟨some 0, 0x0C, .nextserial, 7⟩,
   ⟨some 0, 0x13, .haltwhy, 1⟩, ⟨some 0, 0x14, .lastout, 2⟩, ⟨some 0, 0x16, .lasttag, 2⟩,
   ⟨some 0, 0x18, .lastframe, 2⟩, ⟨some 0, 0x1A, .straps, 1⟩, ⟨some 0, 0x1B, .svcstat, 1⟩]

/-- Page 1 of the register map (R200). -/
def mapPage1 : List RegRow :=
  [⟨some 1, 0x01, .cmd, 1⟩, ⟨some 1, 0x02, .cmdtag, 2⟩, ⟨some 1, 0x04, .cmdframe, 2⟩,
   ⟨some 1, 0x06, .cmdresult, 1⟩, ⟨some 1, 0x07, .strobecfg, 1⟩, ⟨some 1, 0x08, .strobetag, 2⟩,
   ⟨some 1, 0x0A, .ticksel, 1⟩, ⟨some 1, 0x0B, .timercfg, 1⟩, ⟨some 1, 0x0C, .warnat, 2⟩,
   ⟨some 1, 0x0E, .expireat, 2⟩, ⟨some 1, 0x10, .memwatch, 1⟩]

/-- Page 2 of the register map (R200). -/
def mapPage2 : List RegRow :=
  [⟨some 2, 0x01, .regidx, 1⟩, ⟨some 2, 0x02, .regclass, 1⟩, ⟨some 2, 0x03, .regbase, 3⟩,
   ⟨some 2, 0x06, .reglimit, 4⟩, ⟨some 2, 0x0A, .regcommit, 1⟩, ⟨some 2, 0x0B, .regstat, 1⟩,
   ⟨some 2, 0x0C, .slotidx, 2⟩, ⟨some 2, 0x0E, .slotload, 1⟩, ⟨some 2, 0x0F, .slotstat, 1⟩,
   ⟨some 2, 0x10, .slotdata, 16⟩, ⟨some 2, 0x20, .frameidx, 1⟩, ⟨some 2, 0x21, .framedata, 10⟩]

/-- Page 3 of the register map (R200). -/
def mapPage3 : List RegRow :=
  [⟨some 3, 0x01, .flags, 2⟩, ⟨some 3, 0x03, .masks, 2⟩, ⟨some 3, 0x05, .ctrsel, 1⟩,
   ⟨some 3, 0x06, .ctrval, 4⟩, ⟨some 3, 0x0A, .refcount, 1⟩, ⟨some 3, 0x0B, .refhead, 7⟩,
   ⟨some 3, 0x12, .refovf, 1⟩]

/-- The register map (R200). -/
def registerMap : List RegRow := mapPage0 ++ mapPage1 ++ mapPage2 ++ mapPage3

/-- A row holds an index of a page. -/
def RegRow.holds (r : RegRow) (page index : Nat) : Bool :=
  (r.page = none || r.page = some page) && r.index ≤ index && index < r.index + r.bytes

/-- The row at an index of a page, if a register occupies it (R185). -/
def rowAt (page index : Nat) : Option RegRow := registerMap.find? fun r => RegRow.holds r page index

/-- The number of bytes of a register (R200). -/
def regLength (r : Reg) : Nat := ((registerMap.find? fun row => row.reg = r).map RegRow.bytes).getD 0

/-- The registers that may be written (R200). -/
def isWritable : Reg → Bool
  | .page | .highwater | .cmd | .cmdtag | .cmdframe | .strobecfg | .strobetag | .ticksel | .timercfg
  | .warnat | .expireat | .memwatch | .regidx | .regclass | .regbase | .reglimit | .regcommit | .slotidx
  | .slotload | .frameidx | .flags | .masks | .ctrsel => true
  | _ => false

/-! ## Encodings of fields (R200) -/

/-- CSTATE bits 3:0. -/
def CtrlState.code : CtrlState → Nat
  | .scan => 0 | .recover => 1 | .unformatted => 2 | .await => 3 | .ready => 4 | .enter => 5 | .merge => 6
  | .replay => 7 | .halted => 8 | .wipe => 9 | .dormant => 10 | .bypass => 11

/-- A Bool as a bit of weight `w`. -/
def bitAt (b : Bool) (w : Nat) : Nat := if b then w else 0

/-- CSTATE: the state, start-up in progress in bit 6, HEADER_STALE in bit 7. -/
def cstateValue (s : State) : Nat :=
  CtrlState.code s.ckc.state + bitAt s.ckc.startUp 64 + bitAt s.jmg.headerStale 128

/-- HALTWHY bits 1:0. -/
def HaltReason.code : HaltReason → Nat
  | .none => 0 | .corruptSlot => 1 | .memory => 2

/-- HALTWHY bits 5:4. -/
def HaltItem.code : HaltItem → Nat
  | .none => 0 | .slot => 1 | .header => 2

/-- LASTOUT byte 0, bits 2:0. -/
def Source.code : Source → Nat
  | .none => 0 | .strobe => 1 | .service => 2 | .timer => 3 | .fault => 4 | .start => 5

/-- LASTOUT byte 0, bits 5:3. -/
def CmdKind.code : CmdKind → Nat
  | .none => 0 | .mark => 1 | .keep => 2 | .undo => 3 | .undoAll => 4 | .undoTo => 5

/-- LASTOUT byte 1. -/
def CmdOutcome.code : CmdOutcome → Nat
  | .none => 0 | .done => 1 | .donePartial => 2 | .noLevel => 3 | .depthLimit => 4 | .stale => 5
  | .headerFailed => 6 | .abandoned => 7 | .unformatted => 8 | .bypassed => 9

/-- SVCSTAT. -/
def SvcStat.code : SvcStat → Nat
  | .none => 0 | .ok => 1 | .readOnly => 2 | .badValue => 3

/-- CMDRESULT. -/
def CmdResult.code : CmdResult → Nat
  | .none => 0 | .accepted => 1 | .queueFull => 2 | .done => 3 | .wrongState => 4 | .badValue => 5

/-- REGSTAT. -/
def RegStat.code : RegStat → Nat
  | .none => 0 | .done => 1 | .locked => 2 | .badValue => 3

/-- SLOTSTAT. -/
def SlotStatus.code : SlotStatus → Nat
  | .none => 0 | .valid => 1 | .invalid => 2 | .aboveTop => 3 | .memerr => 4

/-- REGCLASS bits 2:1. -/
def RegionClass.code : RegionClass → Nat
  | .pass => 0 | .journaled => 1 | .steady => 2 | .barred => 3

/-- The class of a two-bit code. -/
def RegionClass.ofCode (n : Nat) : RegionClass :=
  match n % 4 with
  | 0 => .pass
  | 1 => .journaled
  | 2 => .steady
  | _ => .barred

/-- REFHEAD byte 6: 1 to 15 in the order of R124. -/
def Reason.code : Reason → Nat
  | .misaligned => 1 | .crossing => 2 | .outOfArray => 3 | .journalArea => 4 | .barred => 5
  | .steadyLocked => 6 | .unformatted => 7 | .awaiting => 8 | .halted => 9 | .wiping => 10
  | .headerStale => 11 | .serialSpent => 12 | .journalFull => 13 | .memoryError => 14 | .memoryTimeout => 15

/-- FRAMEDATA byte 0, bits 2:1. -/
def Origin.code : Origin → Nat
  | .strobe => 0 | .service => 1 | .recovered => 2

/-- A line's edge selection in STROBECFG: 0 RISING, 1 FALLING. -/
def edgeIsFalling (e : Edge) : Bool := e = .falling

/-- STROBECFG. -/
def strobecfgValue (u : Siu) : Nat :=
  bitAt (edgeIsFalling u.markEdge) 1 + bitAt (edgeIsFalling u.keepEdge) 2 + bitAt (edgeIsFalling u.undoEdge) 4
    + bitAt (!edgeIsFalling u.faultPolarity) 8 + bitAt (u.faultAction = .alertOnly) 16

/-- The number of owed marks that are not empty, the field OWED of TIMERCFG (section 8.1). -/
def owedCount (a : Atu) : Nat := a.owed.toList.countP Option.isSome

/-- TIMERCFG. -/
def timercfgValue (a : Atu) : Nat :=
  bitAt a.enable 1 + bitAt (a.action = .undoTo) 2 + 16 * owedCount a

/-- REGCLASS of a descriptor. -/
def regclassValue (r : Region) : Nat :=
  bitAt r.valid 1 + 2 * RegionClass.code r.cls + bitAt (r.policy = .breach) 8

/-- The descriptor that the region index names (R117). -/
def windowRegion (s : State) : Region := (s.hbp.regions[s.svp.regionIndex]?).getD Region.reset

/-- The ten bytes of FRAMEDATA for a frame index: the frame, or ABSENT (R195). -/
def framedataBytes (s : State) : List Byte :=
  match s.ckc.frames[s.svp.frameIndex.toNat]? with
  | none => List.replicate 10 0
  | some f =>
    [BitVec.ofNat 8 (1 + 2 * Origin.code f.origin + bitAt f.warned 8 + bitAt f.expired 16 + bitAt f.broken 32),
      BitVec.ofNat 8 f.level]
    ++ littleEndian 2 f.start ++ littleEndian 2 f.tag.toNat ++ littleEndian 2 f.id.toNat
    ++ littleEndian 2 f.age.toNat

/-- The seven bytes of REFHEAD: the head entry of the refusal list, or zero fields with reason NONE (R126). -/
def refheadBytes (h : Hbp) : List Byte :=
  match h.refusals with
  | [] => List.replicate 7 0
  | r :: _ =>
    littleEndian 2 r.number.toNat ++ littleEndian 3 r.addr.toNat
    ++ [BitVec.ofNat 8 (bitAt (r.dir = .write) 1 + 2 * Len.code r.len), BitVec.ofNat 8 (Reason.code r.reason)]

/-- The bytes of a register as they stand, least significant first (R200). -/
def regBytes (s : State) : Reg → List Byte
  | .page => littleEndian 1 s.svp.page.toNat
  | .id => [Config.idValue]
  | .rev => [Config.revValue]
  | .cstate => littleEndian 1 (cstateValue s)
  | .depth => littleEndian 1 (depth s)
  | .qcount => littleEndian 1 s.ckc.queue.length
  | .top => littleEndian 2 s.jmg.top
  | .capacity => littleEndian 2 (capacity s.straps)
  | .highwater => littleEndian 2 s.jmg.highWater
  | .nextserial => littleEndian 7 s.jmg.nextSerial
  | .haltwhy => littleEndian 1 (HaltReason.code s.rpe.haltReason + 16 * HaltItem.code s.rpe.haltItem)
  | .lastout =>
    [BitVec.ofNat 8 (Source.code s.ckc.last.source + 8 * CmdKind.code s.ckc.last.kind),
      BitVec.ofNat 8 (CmdOutcome.code s.ckc.last.outcome)]
  | .lasttag => littleEndian 2 s.ckc.last.tag.toNat
  | .lastframe => littleEndian 2 s.ckc.last.frameId.toNat
  | .straps => littleEndian 1 (s.straps.pl.toNat + 8 * s.straps.rp.toNat + 32 * s.straps.sa.toNat)
  | .svcstat => littleEndian 1 (SvcStat.code s.svp.stat)
  | .cmd | .regcommit | .slotload => [0]
  | .cmdtag => littleEndian 2 s.svp.cmdTag.toNat
  | .cmdframe => littleEndian 2 s.svp.cmdFrame.toNat
  | .cmdresult => littleEndian 1 (CmdResult.code s.svp.cmdResult)
  | .strobecfg => littleEndian 1 (strobecfgValue s.siu)
  | .strobetag => littleEndian 2 s.siu.strobeTag.toNat
  | .ticksel => littleEndian 1 s.atu.tickSel.toNat
  | .timercfg => littleEndian 1 (timercfgValue s.atu)
  | .warnat => littleEndian 2 s.atu.warnAt.toNat
  | .expireat => littleEndian 2 s.atu.expireAt.toNat
  | .memwatch => littleEndian 1 s.mbp.watchLimit.toNat
  | .regidx => littleEndian 1 s.svp.regionIndex
  | .regclass => littleEndian 1 (regclassValue (windowRegion s))
  | .regbase => littleEndian 3 (windowRegion s).base.toNat
  | .reglimit => littleEndian 4 (windowRegion s).limit.toNat
  | .regstat => littleEndian 1 (RegStat.code s.svp.regStat)
  | .slotidx => littleEndian 2 s.svp.slotIndex
  | .slotstat => littleEndian 1 (SlotStatus.code s.svp.slotStatus)
  | .slotdata => s.svp.slotBytes
  | .frameidx => littleEndian 1 s.svp.frameIndex.toNat
  | .framedata => framedataBytes s
  | .flags => littleEndian 2 s.acu.flags.toNat
  | .masks => littleEndian 2 s.acu.masks.toNat
  | .ctrsel => littleEndian 1 s.acu.counterSelect.toNat
  | .ctrval => littleEndian 4 (Counters.selected s.acu.counters s.acu.counterSelect).toNat
  | .refcount => littleEndian 1 s.hbp.refusals.length
  | .refhead => refheadBytes s.hbp
  | .refovf => littleEndian 1 s.hbp.overflow

/-! ## Commands -/

/-- CMDRESULT takes a value (R190). -/
def setCmdResult (r : CmdResult) (s : State) : State := { s with svp := { s.svp with cmdResult := r } }

/-- SVCSTAT takes a value (R189). -/
def setStat (r : SvcStat) (s : State) : State := { s with svp := { s.svp with stat := r } }

/-- An immediate command: DONE and its effect when it is accepted, WRONG_STATE and nothing else when it is
refused (R190). -/
def immediate (accepted : Bool) (effect : State → State) (s : State) : State :=
  if accepted then effect (setCmdResult .done s) else setCmdResult .wrongState s

/-- CLEAR_COUNTS: the eight counters and the overflow count of the refusal list become 0 (R182). -/
def clearCountsEffect (s : State) : State :=
  { s with
    acu := { s.acu with counters := Counters.zero }
    hbp := { s.hbp with overflow := 0 } }

/-- POP_REFUSAL: the head entry leaves the refusal list (R126). -/
def popRefusalEffect (s : State) : State :=
  { s with hbp := { s.hbp with refusals := s.hbp.refusals.tail } }

/-- CKC enters DORMANT (R107). -/
def enterDormant (s : State) : State := { s with ckc := { s.ckc with state := .dormant } }

/-- The command codes of CMD (R200). -/
inductive CmdCode where
  | mark | keep | undo | undoAll | undoTo | resume | skip | abandon | sync | format | quiesce | restart | flush
  | clearCounts | popRefusal
  deriving DecidableEq, Repr

/-- The code byte of a command (R200). -/
def CmdCode.byte : CmdCode → Byte
  | .mark => 0x01
  | .keep => 0x02
  | .undo => 0x03
  | .undoAll => 0x04
  | .undoTo => 0x05
  | .resume => 0x10
  | .skip => 0x11
  | .abandon => 0x12
  | .sync => 0x13
  | .format => 0x14
  | .quiesce => 0x15
  | .restart => 0x16
  | .flush => 0x17
  | .clearCounts => 0x18
  | .popRefusal => 0x19

/-- The fifteen commands. -/
def allCommands : List CmdCode :=
  [.mark, .keep, .undo, .undoAll, .undoTo, .resume, .skip, .abandon, .sync, .format, .quiesce, .restart,
   .flush, .clearCounts, .popRefusal]

/-- The command that a code byte names, if any (R190). -/
def commandOf (b : Byte) : Option CmdCode := allCommands.find? fun c => CmdCode.byte c = b

/-- The command named by a CMD write is issued (R190). -/
def issueCommand (s : State) : CmdCode → State
  | .mark => serviceArrival (.mark s.svp.cmdTag) s
  | .keep => serviceArrival .keep s
  | .undo => serviceArrival .undo s
  | .undoAll => serviceArrival .undoAll s
  | .undoTo => serviceArrival (.undoTo s.svp.cmdFrame) s
  | .resume => immediate (haltCommandAllowed s) resumeReplay s
  | .skip => immediate (haltCommandAllowed s && s.rpe.haltItem = .slot) skipReplay s
  | .abandon => immediate (haltCommandAllowed s) abandonReplay s
  | .sync => immediate (syncAllowed s) syncHeader s
  | .format => immediate (formatAllowed s) formatJournal s
  | .quiesce => immediate (quiesceAllowed s) enterDormant s
  | .restart => immediate true beginRestart s
  | .flush => immediate true discardQueue s
  | .clearCounts => immediate true clearCountsEffect s
  | .popRefusal => immediate (!s.hbp.refusals.isEmpty) popRefusalEffect s

/-- A CMD write takes effect: SVCSTAT OK and the command, or BAD_VALUE in both for a code that names none
(R189, R190). -/
def writeCmd (b : Byte) (s : State) : State :=
  match commandOf b with
  | some c => issueCommand (setStat .ok s) c
  | none => setCmdResult .badValue (setStat .badValue s)

/-! ## Register writes -/

/-- A write is taken with SVCSTAT OK when its value is legal, and otherwise changes nothing and reads
BAD_VALUE (R189). -/
def judged (legal : Bool) (effect : State → State) (s : State) : State :=
  if legal then effect (setStat .ok s) else setStat .badValue s

/-- STROBECFG's five fields (R147, R200). -/
def applyStrobecfg (v : Nat) (u : Siu) : Siu :=
  { u with
    markEdge := if v.testBit 0 then .falling else .rising
    keepEdge := if v.testBit 1 then .falling else .rising
    undoEdge := if v.testBit 2 then .falling else .rising
    faultPolarity := if v.testBit 3 then .rising else .falling
    faultAction := if v.testBit 4 then .alertOnly else .undoAll }

/-- TIMERCFG's two fields: an enable that goes OFF or comes ON leaves prescaler and divider at 0, and an action
that leaves UNDO_TO empties the owed marks (R149, R156). -/
def applyTimercfg (v : Nat) (a : Atu) : Atu :=
  let on := v.testBit 0
  let act : ExpiryAction := if v.testBit 1 then .undoTo else .alertOnly
  { a with
    enable := on
    action := act
    prescaler := if on ∧ a.enable then a.prescaler else 0
    divider := if on ∧ a.enable then a.divider else 0
    owed := if a.action = .undoTo ∧ act = .alertOnly then Vector.replicate 8 none else a.owed }

/-- REGCLASS into the region staging (R191, R200). -/
def stageRegclass (v : Nat) (r : Region) : Region :=
  { r with
    valid := v.testBit 0
    cls := RegionClass.ofCode (v / 2)
    policy := if v.testBit 3 then .breach else .refuse }

/-- The region staging takes new fields. -/
def stageRegion (f : Region → Region) (s : State) : State :=
  { s with svp := { s.svp with regionStaging := f s.svp.regionStaging } }

/-- A commit may change a descriptor: READY, UNFORMATTED or BYPASS at depth 0 (R116). -/
def commitUnlocked (s : State) : Bool :=
  (s.ckc.state = .ready || s.ckc.state = .unformatted || s.ckc.state = .bypass) && depth s = 0

/-- The tests of a staged valid descriptor (R116). -/
def regionLegal (st : Straps) (r : Region) : Bool :=
  r.base.toNat % 64 = 0 && r.limit.toNat % 64 = 0 && r.base.toNat < r.limit.toNat
    && r.limit.toNat ≤ arraySize st

/-- A descriptor of the region table is replaced. -/
def setRegion (i : Nat) (r : Region) (s : State) : State :=
  { s with hbp := { s.hbp with regions := s.hbp.regions.setIfInBounds i r } }

/-- REGSTAT takes a value. -/
def setRegStat (r : RegStat) (s : State) : State := { s with svp := { s.svp with regStat := r } }

/-- HBP judges a commit of the region staging (R116). -/
def commitRegion (s : State) : State :=
  let r := s.svp.regionStaging
  if !commitUnlocked s then setRegStat .locked s
  else if !r.valid then
    setRegStat .done (setRegion s.svp.regionIndex { windowRegion s with valid := false } s)
  else if regionLegal s.straps r then setRegStat .done (setRegion s.svp.regionIndex r s)
  else setRegStat .badValue s

/-- The SERVICE read of the slot that the slot index names is presented, and the load is in flight (R192). -/
def beginSlotLoad (s : State) : State :=
  present ⟨.service, .slotLoad, slotAddr s.straps s.svp.slotIndex, .read, .four, 0xF, []⟩
    { s with svp := { s.svp with slotLoad := some s.svp.slotIndex } }

/-- SLOTLOAD: a load starts, or SCL is held until the one in flight has ended (R192). -/
def writeSlotload (s : State) : State :=
  if s.svp.slotLoad.isSome then { s with svp := { s.svp with stall := some .loadAgain } } else beginSlotLoad s

/-- A register write takes effect with its whole value: the owning block takes it, or refuses it as out of
range (R187, R189). -/
def takeValue (r : Reg) (v : Nat) (s : State) : State :=
  match r with
  | .page => judged (v < 4) (fun s => { s with svp := { s.svp with page := BitVec.ofNat 2 v } }) s
  | .highwater =>
    judged (1 ≤ v && v ≤ capacity s.straps) (fun s => { s with jmg := { s.jmg with highWater := v } }) s
  | .cmd => writeCmd (BitVec.ofNat 8 v) s
  | .cmdtag => judged true (fun s => { s with svp := { s.svp with cmdTag := BitVec.ofNat 16 v } }) s
  | .cmdframe => judged true (fun s => { s with svp := { s.svp with cmdFrame := BitVec.ofNat 16 v } }) s
  | .strobecfg => judged true (fun s => { s with siu := applyStrobecfg v s.siu }) s
  | .strobetag => judged true (fun s => { s with siu := { s.siu with strobeTag := BitVec.ofNat 16 v } }) s
  | .ticksel =>
    judged (v < 16)
      (fun s => { s with atu := { s.atu with tickSel := BitVec.ofNat 4 v, prescaler := 0, divider := 0 } }) s
  | .timercfg => judged true (fun s => { s with atu := applyTimercfg v s.atu }) s
  | .warnat => judged (1 ≤ v) (fun s => { s with atu := { s.atu with warnAt := BitVec.ofNat 16 v } }) s
  | .expireat => judged (1 ≤ v) (fun s => { s with atu := { s.atu with expireAt := BitVec.ofNat 16 v } }) s
  | .memwatch => judged (1 ≤ v) (fun s => { s with mbp := { s.mbp with watchLimit := BitVec.ofNat 8 v } }) s
  | .regidx =>
    judged (v < 12)
      (fun s =>
        { s with
          svp :=
            { s.svp with
              regionIndex := v
              regionStaging := (s.hbp.regions[v]?).getD Region.reset } }) s
  | .regclass => judged true (stageRegion (stageRegclass v)) s
  | .regbase => judged true (stageRegion fun g => { g with base := BitVec.ofNat 24 v }) s
  | .reglimit => judged true (stageRegion fun g => { g with limit := BitVec.ofNat 25 v }) s
  | .regcommit => judged true commitRegion s
  | .slotidx =>
    judged (v < capacity s.straps) (fun s => { s with svp := { s.svp with slotIndex := v } }) s
  | .slotload => judged true writeSlotload s
  | .frameidx => judged (v < 8) (fun s => { s with svp := { s.svp with frameIndex := BitVec.ofNat 3 v } }) s
  | .flags => judged true (fun s => { s with acu := { s.acu with flags := s.acu.flags &&& ~~~(BitVec.ofNat 14 v) } }) s
  | .masks => judged true (fun s => { s with acu := { s.acu with masks := BitVec.ofNat 14 v } }) s
  | .ctrsel => judged (v < 8) (fun s => { s with acu := { s.acu with counterSelect := BitVec.ofNat 3 v } }) s
  | .id | .rev | .cstate | .depth | .qcount | .top | .capacity | .nextserial | .haltwhy | .lastout | .lasttag
  | .lastframe | .straps | .svcstat | .cmdresult | .regstat | .slotstat | .slotdata | .framedata | .ctrval
  | .refcount | .refhead | .refovf => setStat .readOnly s

end Sys2Proof.Machine
end

