-- ==== Sys2Proof/Machine/ServicePort.lean ====
section
/-! DEFINITION. The two-wire target (chapter 11): transactions and segments, the register index, staging and
snapshots, data bytes written and read, SCL holds, and the slot window. -/

namespace Sys2Proof.Machine

/-! ## Index and rows -/

/-- The register index after a byte: `$3F` increments to PAST (R185). -/
def RegIndex.next : RegIndex → RegIndex
  | .index i => if i = 63 then .past else .index (i + 1)
  | .past => .past

/-- The register index advances by a byte (R185). -/
def advanceIndex (s : State) : State := { s with svp := { s.svp with index := RegIndex.next s.svp.index } }

/-- The row of the register map at the register index of the selected page, if a register stands there. -/
def currentRow (s : State) : Option RegRow :=
  match s.svp.index with
  | .index i => rowAt s.svp.page.toNat i.toNat
  | .past => none

/-- The register at the register index, if any. -/
def currentReg (s : State) : Option Reg := (currentRow s).map RegRow.reg

/-- The byte of its register at which the register index stands. -/
def currentOffset (s : State) (row : RegRow) : Nat :=
  match s.svp.index with
  | .index i => i.toNat - row.index
  | .past => 0

/-! ## Staging (R187) -/

/-- The staging with the byte of a register at an offset taken out. -/
def unstageByte (r : Reg) (k : Nat) (st : List StagedByte) : List StagedByte :=
  st.filter fun b => !(b.reg = r && b.offset = k)

/-- The staging with every byte of a register taken out. -/
def unstage (r : Reg) (st : List StagedByte) : List StagedByte := st.filter fun b => b.reg ≠ r

/-- A byte is staged; a byte staged at the same place before gives way (R187). -/
def stageByte (r : Reg) (k : Nat) (v : Byte) (s : State) : State :=
  { s with svp := { s.svp with staging := unstageByte r k s.svp.staging ++ [⟨r, k, v⟩] } }

/-- The staged byte of a register at an offset, if any. -/
def stagedAt (r : Reg) (k : Nat) (st : List StagedByte) : Option Byte :=
  (st.find? fun b => b.reg = r && b.offset = k).map StagedByte.value

/-- The bytes that a byte not written keeps: the register's present value; zero for FLAGS (R176); the region
staging for REGBASE and REGLIMIT, which are written there (R191). -/
def keptBytes (s : State) : Reg → List Byte
  | .flags => [0, 0]
  | .regbase => littleEndian 3 s.svp.regionStaging.base.toNat
  | .reglimit => littleEndian 4 s.svp.regionStaging.limit.toNat
  | r => regBytes s r

/-- The value that a write of a register's highest byte forms, from the bytes written in the transaction and
those kept (R187). -/
def formedValue (r : Reg) (n : Nat) (top : Byte) (s : State) : Nat :=
  ofLittleEndian
    (((List.range (n - 1)).map fun k => (stagedAt r k s.svp.staging).getD ((keptBytes s r).getD k 0)) ++ [top])

/-- A data byte at offset `k` of a register of `n` bytes: it is staged, or takes effect at the highest byte
(R187); at a read-only register it is ignored with READ_ONLY (R189). -/
def writeRegByte (r : Reg) (n k : Nat) (b : Byte) (s : State) : State :=
  if !isWritable r then setStat .readOnly s
  else if k + 1 < n then stageByte r k b s
  else
    let v := formedValue r n b s
    takeValue r v { s with svp := { s.svp with staging := unstage r s.svp.staging } }

/-- A data byte at the register index; PAST ignores it, an index that no register occupies reads READ_ONLY
(R185). -/
def writeAtIndex (b : Byte) (s : State) : State :=
  match s.svp.index with
  | .past => s
  | .index _ =>
    match currentRow s with
    | none => setStat .readOnly s
    | some row => writeRegByte row.reg row.bytes (currentOffset s row) b s

/-- A data byte is written and the index advances (R185). -/
def writeAndAdvance (b : Byte) (s : State) : State := advanceIndex (writeAtIndex b s)

/-! ## Bytes of a write segment -/

/-- The part hears the two-wire bus: no reset holds it, and it is not holding SCL. -/
def busHeard (s : State) : Bool := !s.resetHeld && s.svp.stall.isNone

/-- SVP acknowledges a byte (R184). -/
def setAck (a : Bool) (s : State) : State := { s with svp := { s.svp with ack := a } }

/-- A data byte of a write segment: in DORMANT it wakes the part and waits for the end of the wake (R196);
otherwise it is written at the register index. -/
def dataByte (b : Byte) (s : State) : State :=
  if busHeard s && s.svp.segment = .writing then
    if s.ckc.state = .dormant then
      let s1 := startWake (setAck true s)
      { s1 with svp := { s1.svp with stall := some (.wakeByte b) } }
    else writeAndAdvance b (setAck true s)
  else s

/-- A data byte reaches one of the given registers: the register index of the selected page names it. -/
def reaches (rs : List Reg) (s : State) : Bool :=
  match currentReg s with
  | some r => rs.contains r
  | none => false

/-- A data byte of a write segment at one of the given registers; a byte anywhere else is not this event. -/
def dataByteAt (rs : List Reg) (b : Byte) (s : State) : State := if reaches rs s then dataByte b s else s

/-- A command's code byte reaches CMD. -/
def commandByte (c : CmdCode) (s : State) : State := dataByteAt [.cmd] (CmdCode.byte c) s

/-- A code byte that names no command reaches CMD. -/
def unknownCommandByte (b : Byte) (s : State) : State := if commandOf b = none then dataByteAt [.cmd] b s else s

/-! ## Addresses, index bytes and STOP -/

/-- An address byte after a START or repeated START: a match is acknowledged and begins a segment, and in
DORMANT wakes the part; any other address leaves the segment to be ignored (R184, R196). -/
def addressByte (a : BitVec 7) (d : Dir) (s : State) : State :=
  if !busHeard s then s
  else if a = serviceAddress s.straps then
    let s1 : State :=
      { s with
        svp :=
          { s.svp with
            segment := (match d with | .write => .awaitIndex | .read => .reading)
            ack := true
            sda := none } }
    if s.ckc.state = .dormant then
      let s2 := startWake s1
      { s2 with svp := { s2.svp with stall := some .wakeAddress } }
    else s1
  else { s with svp := { s.svp with segment := .ignored, ack := false, sda := none } }

/-- The index byte sets the register index: `$40` or more sets it to PAST (R185). -/
def indexByte (b : Byte) (s : State) : State :=
  if busHeard s && s.svp.segment = .awaitIndex then
    { s with
      svp :=
        { s.svp with
          index := if b.toNat < 64 then .index (BitVec.ofNat 6 b.toNat) else .past
          segment := .writing
          ack := true } }
  else s

/-- The STOP condition ends the transaction: staged bytes and snapshots are discarded (R184, R187, R188). -/
def stopCondition (s : State) : State :=
  if busHeard s then
    { s with svp := { s.svp with segment := .ignored, staging := [], snapshots := [], sda := none } }
  else s

/-! ## Bytes of a read segment -/

/-- The snapshot of a register, if one was taken in the present transaction (R188). -/
def snapshotOf (r : Reg) (v : Svp) : Option (List Byte) :=
  (v.snapshots.find? fun x => x.reg = r).map Snapshot.bytes

/-- The multi-byte registers that are read through a snapshot: all but SLOTDATA (R188, R194). -/
def snapshotted (r : Reg) (n : Nat) : Bool := 1 < n && r ≠ .slotdata

/-- The read snapshot of a register is taken (R188). -/
def takeSnapshot (r : Reg) (s : State) : State :=
  { s with
    svp := { s.svp with snapshots := ⟨r, regBytes s r⟩ :: s.svp.snapshots.filter fun x => x.reg ≠ r } }

/-- The byte at the register index: from the snapshot of a multi-byte register where one was taken, and
otherwise as it stands (R188); `$00` where no register stands and at PAST (R185). -/
def byteAtIndex (s : State) : Byte :=
  match currentRow s with
  | none => 0
  | some row =>
    let k := currentOffset s row
    let live := (regBytes s row.reg).getD k 0
    if snapshotted row.reg row.bytes then ((snapshotOf row.reg s.svp).map fun bs => bs.getD k 0).getD live
    else live

/-- A read of the lowest byte of a multi-byte register takes its snapshot (R188). -/
def snapshotAtIndex (s : State) : State :=
  match currentRow s with
  | none => s
  | some row =>
    if snapshotted row.reg row.bytes && currentOffset s row = 0 then takeSnapshot row.reg s else s

/-- SVP sends the byte at the register index and the index advances; it stops driving when the controller
does not acknowledge (R184, R185). -/
def sendByte (ack : Bool) (s : State) : State :=
  let s1 := snapshotAtIndex s
  advanceIndex
    { s1 with
      svp :=
        { s1.svp with
          sda := some (byteAtIndex s1)
          segment := if ack then .reading else .ignored } }

/-- The byte at the register index belongs to SLOTSTAT or SLOTDATA (R194). -/
def slotWindowByte (s : State) : Bool := reaches [.slotstat, .slotdata] s

/-- The controller clocks a byte of a read segment: it is sent, or SCL is held while a load that will fill the
slot window is in flight (R185, R194). -/
def readByte (ack : Bool) (s : State) : State :=
  if busHeard s && s.svp.segment = .reading then
    if slotWindowByte s && s.svp.slotLoad.isSome then
      { s with svp := { s.svp with stall := some (.slotByte ack) } }
    else sendByte ack s
  else s

/-! ## The slot window -/

/-- The status and bytes with which a load fills the slot window (R193). -/
def windowOf (s : State) (slot : Nat) (e : Ending) : SlotStatus × List Byte :=
  match e with
  | .done cells =>
    let bs := bytesOfCells (takeBeats 4 cells)
    if s.jmg.top ≤ slot then (.aboveTop, bs)
    else if slotValidates (journalBase s.straps) bs then (.valid, bs)
    else (.invalid, bs)
  | _ => (.memerr, List.replicate 16 0)

/-- What SCL was held for by a load goes on: the byte of the window is sent, or the next load starts (R192,
R194). -/
def releaseLoadStall (s : State) : State :=
  match s.svp.stall with
  | some (.slotByte ack) => sendByte ack { s with svp := { s.svp with stall := none } }
  | some .loadAgain => beginSlotLoad { s with svp := { s.svp with stall := none } }
  | _ => s

/-- A slot load ends: the window is filled, the load is IDLE, and what waited for it goes on (R192 to R194). -/
def slotLoadEnded (e : Ending) (s : State) : State :=
  match s.svp.slotLoad with
  | none => s
  | some slot =>
    let w := windowOf s slot e
    releaseLoadStall
      { s with svp := { s.svp with slotLoad := none, slotStatus := w.1, slotBytes := w.2 } }

/-! ## The end of a wake -/

/-- The Service Port transaction that the wake held goes on in READY (R109, R196). -/
def releaseWakeStall (s : State) : State :=
  match s.svp.stall with
  | some .wakeAddress => { s with svp := { s.svp with stall := none } }
  | some (.wakeByte b) => writeAndAdvance b { s with svp := { s.svp with stall := none } }
  | _ => s

/-- One of the events that the wake held is handled as in READY. The host transaction is taken and, if it is
let in, enters the gate before the events after it (R109). -/
def handleWakeEvent (w : WakeEvent) (s : State) : State :=
  match w with
  | .host => tryGate (rejudge s)
  | .strobes => arriveWakeList s
  | .fault => takeWakeFault s
  | .service => releaseWakeStall s

/-- The held events in an order. -/
def handleWakeEvents : List WakeEvent → State → State
  | [], s => s
  | w :: ws, s => handleWakeEvents ws (handleWakeEvent w s)

/-- The order in which held events are handled when the given one names only some of them. -/
def fullWakeOrder (order : List WakeEvent) : List WakeEvent := order ++ [.host, .strobes, .fault, .service]

/-- The wake ends: CKC enters READY and the held events are handled in an order (R109). -/
def endWake (order : List WakeEvent) (s : State) : State :=
  if s.ckc.waking then
    handleWakeEvents (fullWakeOrder order)
      { s with ckc := { s.ckc with state := .ready, waking := false, wakeCount := 0 } }
  else s

end Sys2Proof.Machine
end

