-- ==== Sys2Proof/Machine/MemoryBus.lean ====
section
/-! DEFINITION. The Memory Bus Port (chapter 9): the arbiter, the endings handed to requesters, the memory
watch, drain and settle, and the REFCLK period in which nothing is commanded. -/

namespace Sys2Proof.Machine

/-! ## The arbiter -/

/-- The request waiting in a requester's place. -/
def waitingOf (m : Mbp) : Requester → Option MemRequest
  | .host => m.waitHost
  | .engine => m.waitEngine
  | .service => m.waitService

/-- The order of search after the last grant (R163). -/
def searchOrder : Requester → List Requester
  | .host => [.engine, .service, .host]
  | .engine => [.service, .host, .engine]
  | .service => [.host, .engine, .service]

/-- The requester that the search finds first, if any request waits (R163). -/
def nextGrant (m : Mbp) : Option Requester :=
  (searchOrder m.lastGrant).find? fun r => (waitingOf m r).isSome

/-- A requester's place is emptied. -/
def clearWaiting (m : Mbp) : Requester → Mbp
  | .host => { m with waitHost := none }
  | .engine => { m with waitEngine := none }
  | .service => { m with waitService := none }

/-- A granted request leaves its place and is issued with the watch limit that stands (R160, R163, R167). -/
def issue (r : Requester) (q : MemRequest) (m : Mbp) : Mbp :=
  { clearWaiting m r with
    outstanding := some ⟨q, m.watchLimit⟩
    lastGrant := r
    watchCount := 0
    watchPeriods := 0
    phase := .busy }

/-- In phase FREE the arbiter grants a waiting request in rotation; in any other phase no grant is made
(R160, R163). -/
def grant (s : State) : State :=
  if s.mbp.phase = .free && !s.resetHeld then
    match nextGrant s.mbp with
    | some r =>
      match waitingOf s.mbp r with
      | some q => { s with mbp := issue r q s.mbp }
      | none => s
    | none => s
  else s

/-! ## Endings -/

/-- What a requester makes of the ending of its transaction (R169). -/
def endingConsequence (p : Purpose) (e : Ending) (s : State) : State :=
  match p with
  | .passThrough => passThroughEnded e s
  | .preImageRead => preImageReadEnded e s
  | .append => appendEnded e s
  | .captureWrite => captureWriteEnded e s
  | .headerHalf => headerHalfEnded e s
  | .scanHeaderRead => scanHeaderReadEnded e s
  | .scanSlotRead => scanSlotReadEnded e s
  | .replaySlotRead => replaySlotReadEnded e s
  | .restore => restoreEnded e s
  | .wipeSlots => wipeSlotWriteEnded e s
  | .slotLoad => slotLoadEnded e s

/-- The memory answers the outstanding transaction, which is one of purpose `p`: MBP ends it and its requester
acts (R165, R166). With any other transaction outstanding, or none, this is not the event. -/
def memoryAnswers (p : Purpose) (e : Ending) (s : State) : State :=
  if outstandingIs p s then endingConsequence p e (endTransaction e s) else s

/-- The watch count reaches the limit of the outstanding transaction: it ends TIMEOUT, the drain begins, and
its requester acts as for an error (R167). -/
def watchExpires (s : State) : State :=
  match s.mbp.outstanding with
  | some t => endingConsequence t.request.purpose .timeout (endTransaction .timeout s)
  | none => s

/-- The bus becomes FREE. -/
def freeBus (s : State) : State := { s with mbp := { s.mbp with phase := .free } }

/-- The watch count reaches the limit of the drain (R168). -/
def endDrain (s : State) : State := if s.mbp.phase = .drain then freeBus s else s

/-- The watch count reaches 32 in SETTLE (R171). -/
def endSettle (s : State) : State := if s.mbp.phase = .settle && !s.resetHeld then freeBus s else s

/-- DONE or MERR with no transaction outstanding is discarded, and ends a drain (R168, R171). -/
def lateAnswer (s : State) : State := if s.mbp.outstanding.isNone then endDrain s else s

/-! ## REFCLK -/

/-- The count at which the watch acts in the present bus phase (R167, R168, R171). -/
def watchTarget (m : Mbp) : Nat :=
  match m.phase, m.outstanding with
  | .busy, some t => t.limit.toNat
  | .drain, _ => m.drainLimit.toNat
  | _, _ => Config.settleLimit

/-- What the watch does when its count reaches the target. -/
def watchReached (s : State) : State :=
  match s.mbp.phase with
  | .busy => watchExpires s
  | .drain => endDrain s
  | .settle => endSettle s
  | .free => s

/-- One REFCLK period of the memory watch, which counts microseconds in BUSY, DRAIN and SETTLE (R167, R168,
R171). -/
def watchPeriod (s : State) : State :=
  if s.mbp.phase = .free || s.resetHeld then s
  else if s.mbp.watchPeriods + 1 < Config.periodsPerMicrosecond then
    { s with mbp := { s.mbp with watchPeriods := s.mbp.watchPeriods + 1 } }
  else
    let s1 : State := { s with mbp := { s.mbp with watchPeriods := 0, watchCount := s.mbp.watchCount + 1 } }
    if watchTarget s1.mbp ≤ s1.mbp.watchCount then watchReached s1 else s1

/-- One REFCLK period of a wake in progress (R109). -/
def wakePeriod (s : State) : State :=
  if !s.ckc.waking then s
  else if s.ckc.wakeCount + 1 < Config.wakePeriods then
    { s with ckc := { s.ckc with wakeCount := s.ckc.wakeCount + 1 } }
  else endWake [] s

/-- One period of REFCLK in which nothing is commanded: the timebase, then the wake count, then the memory watch
(R109, R149, R167). DESIGN CHOICE, unsafe (log 26): the spec gives no order of the three. -/
def refclkPeriod (s : State) : State := watchPeriod (wakePeriod (timebasePeriod s))

end Sys2Proof.Machine
end

