-- ==== Sys2Proof/Machine/ResetCommands.lean ====
section
/-! DEFINITION. The meanings of the resets, RESTART_EFFECT, and the rows of the memory bus: grants, timeouts,
drains and late responses. -/

namespace Sys2Proof.Machine

/-- Every command of the J40 takes its effect and goes on. -/
abbrev Result := Host.Outcome State Fault Refusal

/-- POR: every block takes its POR value and the reset holds the part (R93). -/
def execPor (s : State) : Result := .next (takeReset s)

/-- RSTN: identical in effect to POR (R93). -/
def execRstn (s : State) : Result := .next (takeReset s)

/-- RESET_END: the straps are sampled and SCAN begins (R92, R93). -/
def execResetEnd (straps : Straps) (s : State) : Result := .next (endReset straps s)

/-- SETTLE_END: SETTLE ends and the bus becomes FREE (R171). -/
def execSettleEnd (s : State) : Result := .next (endSettle s)

/-- RESTART_EFFECT: the pending restart takes effect once the work in flight has ended (R94). -/
def execRestartEffect (s : State) : Result := .next (restartState s)

/-- ARBITER_GRANT: a waiting request is granted in rotation and issued (R163). -/
def execArbiterGrant (s : State) : Result := .next (grant s)

/-- MEMORY_WATCH_TIMEOUT: the outstanding transaction ends TIMEOUT (R167). -/
def execMemoryWatchTimeout (s : State) : Result := .next (watchExpires s)

/-- DRAIN_END: the drain count reaches its limit and the bus becomes FREE (R168). -/
def execDrainEnd (s : State) : Result := .next (endDrain s)

/-- LATE_RESPONSE: an answer with no transaction outstanding is discarded and ends a drain (R168). -/
def execLateResponse (s : State) : Result := .next (lateAnswer s)

end Sys2Proof.Machine
end

