-- ==== Sys2Proof/Machine/HostCommands.lean ====
section
/-! DEFINITION. The meanings of the rows of the host bus and the capture path: HOST_REQUEST, the end of a
wake, the level gate, and the ends of the host's memory transactions. -/

namespace Sys2Proof.Machine

/-- The host presents a transaction: it is UNTAKEN, wakes a dormant part, and is taken at once when nothing
keeps it (R109, R110). The host has at most one transaction outstanding. -/
def presentTxn (t : HostTxn) (s : State) : State :=
  match s.hbp.current with
  | some _ => s
  | none =>
    let s1 : State :=
      { s with hbp := { s.hbp with current := some ⟨t, .untaken, .pass, .refuse⟩, answer := .noneYet } }
    if s.ckc.state = .dormant && !s.resetHeld then startWake s1 else rejudge s1

/-- HOST_REQUEST (R110). -/
def execHostRequest (t : HostTxn) (s : State) : Result := .next (presentTxn t s)

/-- WAKE_END (R109). -/
def execWakeEnd (order : List WakeEvent) (s : State) : Result := .next (endWake order s)

/-- GATE_ENTRY: the write waiting in GATE is put in service when the conditions of R8 hold (R120). -/
def execGateEntry (s : State) : Result := .next (tryGate s)

/-- PRE_IMAGE_READ_END (R35, R40). -/
def execPreImageReadEnd (e : ReadEnding) (s : State) : Result :=
  .next (memoryAnswers .preImageRead (ReadEnding.ending e) s)

/-- APPEND_END (R36, R41). -/
def execAppendEnd (e : WriteEnding) (s : State) : Result :=
  .next (memoryAnswers .append (WriteEnding.ending e) s)

/-- CAPTURE_WRITE_END (R37, R42). -/
def execCaptureWriteEnd (e : WriteEnding) (s : State) : Result :=
  .next (memoryAnswers .captureWrite (WriteEnding.ending e) s)

/-- PASS_THROUGH_END (R121). -/
def execPassThroughEnd (e : ReadEnding) (s : State) : Result :=
  .next (memoryAnswers .passThrough (ReadEnding.ending e) s)

end Sys2Proof.Machine
end

