-- ==== Sys2Proof/Machine/EventCommands.lean ====
section
/-! DEFINITION. The meanings of the rows of SIU, CKC and ATU, and of the ends of the ENGINE and SERVICE
memory transactions. -/

namespace Sys2Proof.Machine

/-- STROBE_EDGE (R130). -/
def execStrobeEdge (line : StrobeLine) (edge : Edge) (s : State) : Result := .next (seeStrobe line edge s)

/-- FAULT_EVENT (R139, R140). -/
def execFaultEvent (edge : Edge) (s : State) : Result := .next (seeFault edge s)

/-- FAULT_REQUEST_ACTED (R10). -/
def execFaultRequestActed (s : State) : Result := .next (actOnFault s)

/-- COMMAND_TAKE (R7). -/
def execCommandTake (s : State) : Result := .next (takeCommand s)

/-- HEADER_HALF_WRITE_END (R61). -/
def execHeaderHalfWriteEnd (e : WriteEnding) (s : State) : Result :=
  .next (memoryAnswers .headerHalf (WriteEnding.ending e) s)

/-- REPLAY_SLOT_READ_END (R74). -/
def execReplaySlotReadEnd (e : ReadEnding) (s : State) : Result :=
  .next (memoryAnswers .replaySlotRead (ReadEnding.ending e) s)

/-- RESTORE_END (R74). -/
def execRestoreEnd (e : WriteEnding) (s : State) : Result :=
  .next (memoryAnswers .restore (WriteEnding.ending e) s)

/-- WIPE_SLOT_WRITE_END (R68, R69). -/
def execWipeSlotWriteEnd (e : WriteEnding) (s : State) : Result :=
  .next (memoryAnswers .wipeSlots (WriteEnding.ending e) s)

/-- SCAN_HEADER_READ_END (R95, R96). -/
def execScanHeaderReadEnd (e : ReadEnding) (s : State) : Result :=
  .next (memoryAnswers .scanHeaderRead (ReadEnding.ending e) s)

/-- SCAN_SLOT_READ_END (R97). -/
def execScanSlotReadEnd (e : ReadEnding) (s : State) : Result :=
  .next (memoryAnswers .scanSlotRead (ReadEnding.ending e) s)

/-- SLOT_LOAD_END (R193). -/
def execSlotLoadEnd (e : ReadEnding) (s : State) : Result :=
  .next (memoryAnswers .slotLoad (ReadEnding.ending e) s)

/-- TICK (R150). -/
def execTick (s : State) : Result := .next (takeTick s)

end Sys2Proof.Machine
end

