-- ==== Sys2Proof/Machine/CmdCommands.lean ====
section
/-! DEFINITION. The meanings of the rows that are codes of CMD. Each is the data byte of its code reaching
CMD in a write segment (R190); the command itself is judged by the rule that owns it. -/

namespace Sys2Proof.Machine

/-- CMD_MARK: a SERVICE MARK arrival that carries CMDTAG (R135). -/
def execCmdMark (s : State) : Result := .next (commandByte .mark s)

/-- CMD_KEEP: a SERVICE KEEP arrival (R135). -/
def execCmdKeep (s : State) : Result := .next (commandByte .keep s)

/-- CMD_UNDO: a SERVICE UNDO arrival (R135). -/
def execCmdUndo (s : State) : Result := .next (commandByte .undo s)

/-- CMD_UNDO_ALL: a SERVICE UNDO_ALL arrival (R135). -/
def execCmdUndoAll (s : State) : Result := .next (commandByte .undoAll s)

/-- CMD_UNDO_TO: a SERVICE UNDO_TO arrival that carries CMDFRAME (R135). -/
def execCmdUndoTo (s : State) : Result := .next (commandByte .undoTo s)

/-- RESUME: in HALTED, the stopped step is retried (R86, R87). -/
def execResume (s : State) : Result := .next (commandByte .resume s)

/-- SKIP: in HALTED on a slot, the slot at top − 1 is given up (R86, R87). -/
def execSkip (s : State) : Result := .next (commandByte .skip s)

/-- ABANDON: in HALTED, a CLEAN header that closes every level is asked for (R86, R88). -/
def execAbandon (s : State) : Result := .next (commandByte .abandon s)

/-- SYNC: with HEADER_STALE set in READY or HALTED, the header is rewritten (R66). -/
def execSync (s : State) : Result := .next (commandByte .sync s)

/-- FORMAT: recovered frames are popped and a wipe begins (R67). -/
def execFormat (s : State) : Result := .next (commandByte .format s)

/-- QUIESCE: DORMANT is entered when READY with nothing in progress (R107). -/
def execQuiesce (s : State) : Result := .next (commandByte .quiesce s)

/-- RESTART: a restart becomes pending (R94). -/
def execRestart (s : State) : Result := .next (commandByte .restart s)

/-- FLUSH: every queue entry is discarded and counted (R137). -/
def execFlush (s : State) : Result := .next (commandByte .flush s)

/-- CLEAR_COUNTS: the counters and the overflow count become 0 (R182). -/
def execClearCounts (s : State) : Result := .next (commandByte .clearCounts s)

/-- POP_REFUSAL: the head of the refusal list is removed (R126). -/
def execPopRefusal (s : State) : Result := .next (commandByte .popRefusal s)

/-- UNKNOWN_COMMAND: a code that names no command reads BAD_VALUE in CMDRESULT and SVCSTAT (R190). -/
def execUnknownCommand (code : Byte) (s : State) : Result := .next (unknownCommandByte code s)

end Sys2Proof.Machine
end

