-- ==== Sys2Proof/Machine/WireCommands.lean ====
section
/-! DEFINITION. The meanings of the rows of the two-wire bus: addresses, index bytes, STOP, data bytes that
reach the registers, and bytes read. A data byte of a multi-byte register is staged, and takes effect at the
register's highest byte (R187). -/

namespace Sys2Proof.Machine

/-- SVC_ADDRESS_MATCH (R184). -/
def execSvcAddressMatch (addr : BitVec 7) (dir : Dir) (s : State) : Result := .next (addressByte addr dir s)

/-- SVC_INDEX_BYTE (R185). -/
def execSvcIndexByte (index : Byte) (s : State) : Result := .next (indexByte index s)

/-- SVC_STOP (R187, R188). -/
def execSvcStop (s : State) : Result := .next (stopCondition s)

/-- PAGE_WRITE (R186). -/
def execPageWrite (data : Byte) (s : State) : Result := .next (dataByteAt [.page] data s)

/-- HIGHWATER_WRITE (R58). -/
def execHighwaterWrite (data : Byte) (s : State) : Result := .next (dataByteAt [.highwater] data s)

/-- STROBECFG_WRITE (R147). -/
def execStrobecfgWrite (data : Byte) (s : State) : Result := .next (dataByteAt [.strobecfg] data s)

/-- STROBETAG_WRITE (R131). -/
def execStrobetagWrite (data : Byte) (s : State) : Result := .next (dataByteAt [.strobetag] data s)

/-- TICKSEL_WRITE (R149). -/
def execTickselWrite (data : Byte) (s : State) : Result := .next (dataByteAt [.ticksel] data s)

/-- TIMERCFG_WRITE (R156). -/
def execTimercfgWrite (data : Byte) (s : State) : Result := .next (dataByteAt [.timercfg] data s)

/-- WARNAT_WRITE (R156). -/
def execWarnatWrite (data : Byte) (s : State) : Result := .next (dataByteAt [.warnat] data s)

/-- EXPIREAT_WRITE (R156). -/
def execExpireatWrite (data : Byte) (s : State) : Result := .next (dataByteAt [.expireat] data s)

/-- MEMWATCH_WRITE (R170). -/
def execMemwatchWrite (data : Byte) (s : State) : Result := .next (dataByteAt [.memwatch] data s)

/-- REGIDX_WRITE (R191). -/
def execRegidxWrite (data : Byte) (s : State) : Result := .next (dataByteAt [.regidx] data s)

/-- REGION_STAGING_WRITE: REGCLASS, REGBASE or REGLIMIT into the region staging (R191). -/
def execRegionStagingWrite (data : Byte) (s : State) : Result := .next (dataByteAt [.regclass, .regbase, .reglimit] data s)

/-- REGCOMMIT: the staged descriptor is handed to HBP (R116, R191). -/
def execRegcommit (data : Byte) (s : State) : Result := .next (dataByteAt [.regcommit] data s)

/-- SLOTIDX_WRITE (R192). -/
def execSlotidxWrite (data : Byte) (s : State) : Result := .next (dataByteAt [.slotidx] data s)

/-- SLOTLOAD: a load of the indexed slot (R192). -/
def execSlotload (data : Byte) (s : State) : Result := .next (dataByteAt [.slotload] data s)

/-- FRAMEIDX_WRITE (R195). -/
def execFrameidxWrite (data : Byte) (s : State) : Result := .next (dataByteAt [.frameidx] data s)

/-- FLAGS_WRITE: each flag written as one is cleared (R176). -/
def execFlagsWrite (data : Byte) (s : State) : Result := .next (dataByteAt [.flags] data s)

/-- MASKS_WRITE (R177). -/
def execMasksWrite (data : Byte) (s : State) : Result := .next (dataByteAt [.masks] data s)

/-- CTRSEL_WRITE (R181). -/
def execCtrselWrite (data : Byte) (s : State) : Result := .next (dataByteAt [.ctrsel] data s)

/-- REGISTER_WRITE: a data byte at the register index, whatever register stands there: staged, taken, or
ignored with READ_ONLY (R187, R189). -/
def execRegisterWrite (data : Byte) (s : State) : Result := .next (dataByte data s)

/-- READ_SEGMENT_BYTE (R185, R188, R194). -/
def execReadSegmentByte (ack : Bool) (s : State) : Result := .next (readByte ack s)

end Sys2Proof.Machine
end

