-- ==== Sys2Proof/Machine/Dispatch.lean ====
section
/-! DEFINITION. The meaning of every command: one arm per row of spec/opcode_table.json. -/

namespace Sys2Proof.Machine

def exec (i : Instr) (s : State) : Host.Outcome State Fault Refusal :=
  match i with
  | .por => Sys2Proof.Machine.execPor s
  | .rstn => Sys2Proof.Machine.execRstn s
  | .resetEnd straps => Sys2Proof.Machine.execResetEnd straps s
  | .settleEnd => Sys2Proof.Machine.execSettleEnd s
  | .hostRequest txn => Sys2Proof.Machine.execHostRequest txn s
  | .wakeEnd order => Sys2Proof.Machine.execWakeEnd order s
  | .gateEntry => Sys2Proof.Machine.execGateEntry s
  | .preImageReadEnd e => Sys2Proof.Machine.execPreImageReadEnd e s
  | .appendEnd e => Sys2Proof.Machine.execAppendEnd e s
  | .captureWriteEnd e => Sys2Proof.Machine.execCaptureWriteEnd e s
  | .passThroughEnd e => Sys2Proof.Machine.execPassThroughEnd e s
  | .arbiterGrant => Sys2Proof.Machine.execArbiterGrant s
  | .memoryWatchTimeout => Sys2Proof.Machine.execMemoryWatchTimeout s
  | .drainEnd => Sys2Proof.Machine.execDrainEnd s
  | .lateResponse => Sys2Proof.Machine.execLateResponse s
  | .strobeEdge line edge => Sys2Proof.Machine.execStrobeEdge line edge s
  | .faultEvent edge => Sys2Proof.Machine.execFaultEvent edge s
  | .faultRequestActed => Sys2Proof.Machine.execFaultRequestActed s
  | .commandTake => Sys2Proof.Machine.execCommandTake s
  | .headerHalfWriteEnd e => Sys2Proof.Machine.execHeaderHalfWriteEnd e s
  | .replaySlotReadEnd e => Sys2Proof.Machine.execReplaySlotReadEnd e s
  | .restoreEnd e => Sys2Proof.Machine.execRestoreEnd e s
  | .wipeSlotWriteEnd e => Sys2Proof.Machine.execWipeSlotWriteEnd e s
  | .scanHeaderReadEnd e => Sys2Proof.Machine.execScanHeaderReadEnd e s
  | .scanSlotReadEnd e => Sys2Proof.Machine.execScanSlotReadEnd e s
  | .slotLoadEnd e => Sys2Proof.Machine.execSlotLoadEnd e s
  | .tick => Sys2Proof.Machine.execTick s
  | .cmdMark => Sys2Proof.Machine.execCmdMark s
  | .cmdKeep => Sys2Proof.Machine.execCmdKeep s
  | .cmdUndo => Sys2Proof.Machine.execCmdUndo s
  | .cmdUndoAll => Sys2Proof.Machine.execCmdUndoAll s
  | .cmdUndoTo => Sys2Proof.Machine.execCmdUndoTo s
  | .resume => Sys2Proof.Machine.execResume s
  | .skip => Sys2Proof.Machine.execSkip s
  | .abandon => Sys2Proof.Machine.execAbandon s
  | .sync => Sys2Proof.Machine.execSync s
  | .format => Sys2Proof.Machine.execFormat s
  | .quiesce => Sys2Proof.Machine.execQuiesce s
  | .restart => Sys2Proof.Machine.execRestart s
  | .restartEffect => Sys2Proof.Machine.execRestartEffect s
  | .flush => Sys2Proof.Machine.execFlush s
  | .clearCounts => Sys2Proof.Machine.execClearCounts s
  | .popRefusal => Sys2Proof.Machine.execPopRefusal s
  | .unknownCommand code => Sys2Proof.Machine.execUnknownCommand code s
  | .svcAddressMatch addr dir => Sys2Proof.Machine.execSvcAddressMatch addr dir s
  | .svcIndexByte index => Sys2Proof.Machine.execSvcIndexByte index s
  | .svcStop => Sys2Proof.Machine.execSvcStop s
  | .pageWrite data => Sys2Proof.Machine.execPageWrite data s
  | .highwaterWrite data => Sys2Proof.Machine.execHighwaterWrite data s
  | .strobecfgWrite data => Sys2Proof.Machine.execStrobecfgWrite data s
  | .strobetagWrite data => Sys2Proof.Machine.execStrobetagWrite data s
  | .tickselWrite data => Sys2Proof.Machine.execTickselWrite data s
  | .timercfgWrite data => Sys2Proof.Machine.execTimercfgWrite data s
  | .warnatWrite data => Sys2Proof.Machine.execWarnatWrite data s
  | .expireatWrite data => Sys2Proof.Machine.execExpireatWrite data s
  | .memwatchWrite data => Sys2Proof.Machine.execMemwatchWrite data s
  | .regidxWrite data => Sys2Proof.Machine.execRegidxWrite data s
  | .regionStagingWrite data => Sys2Proof.Machine.execRegionStagingWrite data s
  | .regcommit data => Sys2Proof.Machine.execRegcommit data s
  | .slotidxWrite data => Sys2Proof.Machine.execSlotidxWrite data s
  | .slotload data => Sys2Proof.Machine.execSlotload data s
  | .frameidxWrite data => Sys2Proof.Machine.execFrameidxWrite data s
  | .flagsWrite data => Sys2Proof.Machine.execFlagsWrite data s
  | .masksWrite data => Sys2Proof.Machine.execMasksWrite data s
  | .ctrselWrite data => Sys2Proof.Machine.execCtrselWrite data s
  | .registerWrite data => Sys2Proof.Machine.execRegisterWrite data s
  | .readSegmentByte ack => Sys2Proof.Machine.execReadSegmentByte ack s

end Sys2Proof.Machine
end

