-- ==== Sys2Proof/Machine/Step.lean ====
section
/-! DEFINITION. One step of the J40: the command at the front of the waiting commands is given to the part,
and with none waiting one period of REFCLK passes. -/

namespace Sys2Proof.Machine

/-- One step: the oldest waiting command takes its effect on the state with the rest still waiting. With none
waiting nothing is commanded, and one REFCLK period passes (R149, R167). -/
def step (s : State) : Host.Outcome State Fault Refusal :=
  match s.pending with
  | [] => .next (refclkPeriod s)
  | c :: rest => exec c { s with pending := rest }

/-- `s` with the command that a table word spells at the front of its waiting commands; the table gives no row
bits, so no word spells one. -/
def State.withFetchWord (s : State) (nbits w : Nat) : State :=
  match decodeTableWord nbits w with
  | some c => { s with pending := c :: s.pending }
  | none => s

end Sys2Proof.Machine
end

