-- ==== Sys2Proof/Safety.lean ====
section
/-! DEFINITION. The terms in which claims about the J40 are made: which blocks a step touches, what the
two-wire bus presents, and the bounds and shapes that every step keeps. -/

namespace Sys2Proof.Safety

open Sys2Proof.Machine

/-! ## Frames -/

/-- The parts of `State`, one for each of its fields. -/
inductive Block where
  | straps | resetHeld | ckc | cpe | jmg | rpe | hbp | siu | atu | mbp | acu | svp | pending
  deriving DecidableEq, Repr

/-- A block of `t` equals that of `s` in every field. -/
def Keeps (s t : State) : Block → Prop
  | .straps => t.straps = s.straps
  | .resetHeld => t.resetHeld = s.resetHeld
  | .ckc => t.ckc = s.ckc
  | .cpe => t.cpe = s.cpe
  | .jmg => t.jmg = s.jmg
  | .rpe => t.rpe = s.rpe
  | .hbp => t.hbp = s.hbp
  | .siu => t.siu = s.siu
  | .atu => t.atu = s.atu
  | .mbp => t.mbp = s.mbp
  | .acu => t.acu = s.acu
  | .svp => t.svp = s.svp
  | .pending => t.pending = s.pending

/-- From `s` to `t` no block changes but those listed. -/
def Touches (bs : List Block) (s t : State) : Prop := ∀ b, b ∉ bs → Keeps s t b

/-! ## Where a step stands -/

/-- A host transaction presented now is taken at once: none is current, and none of the exceptions of R110
holds. -/
abbrev TakesAtOnce (s : State) : Prop :=
  s.hbp.current = none ∧ s.resetHeld = false ∧ s.ckc.restartPending = false
    ∧ s.ckc.state ≠ .scan ∧ s.ckc.state ≠ .recover ∧ s.ckc.state ≠ .dormant

/-- A write waits in GATE and the conditions of R8 let it in. -/
abbrev GateLetsIn (c : Current) (s : State) : Prop :=
  s.hbp.current = some c ∧ c.disposition = .gate ∧ s.ckc.state = .ready ∧ s.ckc.queue = []
    ∧ s.ckc.inService = none ∧ s.ckc.faultRequest = false ∧ s.ckc.gateHeld = false
    ∧ s.ckc.restartPending = false ∧ s.resetHeld = false

/-- CKC may take a command (R7), and no restart is pending (R94). -/
abbrev MayTake (s : State) : Prop :=
  s.ckc.inService = none ∧ s.ckc.gateHeld = false ∧ s.ckc.restartPending = false ∧ s.resetHeld = false
    ∧ (s.ckc.state = .unformatted ∨ s.ckc.state = .bypass
      ∨ (s.ckc.state = .ready ∨ s.ckc.state = .await) ∧ s.ckc.faultRequest = false)

/-- The outstanding memory transaction is one of purpose `p`. -/
abbrev Awaits (p : Purpose) (s : State) : Prop :=
  (s.mbp.outstanding.map fun x => x.request.purpose) = some p

/-- The Memory Bus Port after the memory has answered: nothing outstanding and the bus FREE (R165, R166). -/
def answered (m : Mbp) : Mbp := { m with outstanding := none, phase := .free }

/-- The last half of a header write of purpose `p` is outstanding, and no other header write waits. -/
abbrev SecondHalf (p : HeaderPurpose) (w : HeaderWrite) (s : State) : Prop :=
  Awaits .headerHalf s ∧ s.jmg.headerWrite = some w ∧ w.purpose = p ∧ w.second = true
    ∧ s.jmg.headerWaiting = none

/-- Either half of a header write of purpose `p` is outstanding, and no other header write waits. -/
abbrev EitherHalf (p : HeaderPurpose) (w : HeaderWrite) (s : State) : Prop :=
  Awaits .headerHalf s ∧ s.jmg.headerWrite = some w ∧ w.purpose = p ∧ s.jmg.headerWaiting = none

/-- The Journal Manager after a header write has completed: its copy is current and no longer marked (R62, R64; the
life of the mark: log 34). -/
def headerDone (w : HeaderWrite) (j : Jmg) : Jmg :=
  { j with
    headerWrite := none
    current := some w.copy
    generation := w.contents.generation
    headerStale := false
    failedCopies := if w.copy = .a then ⟨false, j.failedCopies.b⟩ else ⟨j.failedCopies.a, false⟩ }

/-- The Journal Manager after a header write has failed: the copy it reached is marked (R61, R62). -/
def headerLost (w : HeaderWrite) (j : Jmg) : Jmg :=
  { j with
    headerWrite := none
    failedCopies := if w.copy = .a then ⟨true, j.failedCopies.b⟩ else ⟨j.failedCopies.a, true⟩ }

/-! ## The two-wire bus -/

/-- The part hears the two-wire bus and is not dormant: no reset holds it and it does not hold SCL. -/
abbrev Hears (s : State) : Prop := s.resetHeld = false ∧ s.svp.stall = none ∧ s.ckc.state ≠ .dormant

/-- A write segment stands at an index of a page. -/
abbrev WritesAt (page : BitVec 2) (i : BitVec 6) (s : State) : Prop :=
  Hears s ∧ s.svp.segment = .writing ∧ s.svp.page = page ∧ s.svp.index = .index i

/-- A read segment stands at an index of a page. -/
abbrev ReadsAt (page : BitVec 2) (i : BitVec 6) (s : State) : Prop :=
  s.resetHeld = false ∧ s.svp.stall = none ∧ s.svp.segment = .reading ∧ s.svp.page = page
    ∧ s.svp.index = .index i

/-- What the Service Port itself holds after a data byte that took a register's write: the byte acknowledged,
SVCSTAT as given, the index one further, and nothing staged for the register (R184, R185, R187, R189). -/
def afterWrite (r : Reg) (stat : SvcStat) (v : Svp) : Svp :=
  { v with
    ack := true
    stat := stat
    index := RegIndex.next v.index
    staging := v.staging.filter fun b => b.reg ≠ r }

/-- What the Service Port itself holds when an immediate command has been accepted and before its effect: the byte
acknowledged, SVCSTAT OK, CMDRESULT DONE, and nothing staged for CMD (R189, R190). -/
def commandDone (v : Svp) : Svp :=
  { v with
    ack := true
    stat := .ok
    cmdResult := .done
    staging := v.staging.filter fun b => b.reg ≠ .cmd }

/-! ## Bounds and shapes -/

/-- The command queue and the wake list hold no more than R132 and R146 allow. -/
abbrev QueuesBounded (s : State) : Prop := s.ckc.queue.length ≤ 4 ∧ s.siu.wakeList.length ≤ 8

/-- The stack holds at most eight frames, one for each level from 1 upward (R3). -/
abbrev StackOrdered (s : State) : Prop :=
  s.ckc.frames.length ≤ 8 ∧ s.ckc.frames.map Frame.level = List.range' 1 s.ckc.frames.length

/-- The capture set holds at most 1024 entries, no two alike (R27). -/
abbrev CaptureSetBounded (s : State) : Prop :=
  s.cpe.captureSet.length ≤ 1024 ∧ s.cpe.captureSet.Nodup

/-- The refusal list holds at most 8 entries and the overflow count at most 255 (R125). -/
abbrev RefusalsBounded (s : State) : Prop := s.hbp.refusals.length ≤ 8 ∧ s.hbp.overflow ≤ 255

/-- A memory transaction is outstanding exactly in phase BUSY (R160). -/
abbrev BusExclusive (s : State) : Prop := s.mbp.phase = .busy ↔ s.mbp.outstanding.isSome = true

/-- Every configuration value lies in the range its register allows (R58, R156, R170, R191). -/
abbrev ConfigLegal (s : State) : Prop :=
  1 ≤ s.jmg.highWater ∧ s.jmg.highWater ≤ capacity s.straps
    ∧ s.atu.warnAt ≠ 0 ∧ s.atu.expireAt ≠ 0 ∧ s.mbp.watchLimit ≠ 0 ∧ s.svp.regionIndex < 12

end Sys2Proof.Safety
end

