-- ==== Sys2Proof/WellFormed.lean ====
section
/-! DEFINITION. The checks that a command's operands must pass to stand for an event of the J40. Operand
widths are already fixed by the types of Sys2Proof/Syntax.lean; two rows need more. -/

namespace Sys2Proof

/-- The fifteen code bytes that name a command (R200). -/
def namedCodes : List Byte :=
  [0x01, 0x02, 0x03, 0x04, 0x05, 0x10, 0x11, 0x12, 0x13, 0x14, 0x15, 0x16, 0x17, 0x18, 0x19]

/-- UNKNOWN_COMMAND's code names no command (R190), and WAKE_END's order names no held event twice (R109). -/
def Instr.wellFormed : Instr → Bool
  | .unknownCommand code => !namedCodes.contains code
  | .wakeEnd order => order.Nodup
  | _ => true

end Sys2Proof
end

