-- ==== Sys2Proof/Certificates/Slice0/Obligations.lean ====
section
/-! DEFINITION. What is claimed of the J40, one statement per rule or group of rules of spec/, over every state and
operand. Statements give whole next states, so that every block not named in one is unchanged. -/

open Sys2Proof Sys2Proof.Machine Sys2Proof.Safety

/-! ## The machine and its time -/

/-- A step with a command waiting is `exec` of the oldest one, on the state with the rest still waiting
(the model's queue, log 28). -/
def Obligations.StepTakesFrontCommand : Prop :=
  ∀ (c : Instr) (rest : List Instr) (s : State), s.pending = c :: rest →
    step s = exec c { s with pending := rest }

/-- With no command waiting a step is one REFCLK period (the model's choice, log 3). A transaction outstanding under
limit L ends TIMEOUT at the 8·L-th period, as MEMORY_WATCH_TIMEOUT ends it, and until then only the watch count
moves (R167). With the bus FREE a tick comes at the 8·2^TICKSEL-th period, and until then only the prescaler and the
divider move (R149). That the count of a microsecond begins anew at the issue is also the model's choice (log 13). -/
def Obligations.TimeRunsByRefclk : Prop :=
  (∀ (s : State) (x : MemTxn), s.pending = [] → s.resetHeld = false → s.ckc.waking = false →
     s.atu.enable = false → s.mbp.phase = .busy → s.mbp.outstanding = some x →
     s.mbp.watchCount = 0 → s.mbp.watchPeriods = 0 → x.limit ≠ 0 →
     (∀ n, n < 8 * x.limit.toNat →
       Host.Core.run core n s
         = .next { s with mbp := { s.mbp with watchCount := n / 8, watchPeriods := n % 8 } })
     ∧ Host.Core.run core (8 * x.limit.toNat) s = exec .memoryWatchTimeout s)
  ∧ (∀ s : State, s.pending = [] → s.resetHeld = false → s.ckc.waking = false → s.mbp.phase = .free →
       s.atu.enable = true → s.ckc.state ≠ .dormant → s.atu.prescaler = 0 → s.atu.divider = 0 →
       (∀ n, n < 8 * 2 ^ s.atu.tickSel.toNat →
         Host.Core.run core n s = .next { s with atu := { s.atu with prescaler := n % 8, divider := n / 8 } })
       ∧ Host.Core.run core (8 * 2 ^ s.atu.tickSel.toNat) s = exec .tick s)

/-! ## Resets and placement -/

/-- Right after a power-on reset every block stands at its POR value (R25, R48, R70, R91, R128, R148, R159,
R171, R173, R183, R197). -/
def Obligations.ResetGivesPorValues : Prop :=
  let s := State.reset
  (s.ckc.state = .scan ∧ s.ckc.frames = [] ∧ s.ckc.queue = [] ∧ s.ckc.inService = none
    ∧ s.ckc.faultRequest = false ∧ s.ckc.gateHeld = false ∧ s.ckc.nextFrameId = 0
    ∧ s.ckc.last = ⟨.none, .none, 0, 0, .none⟩ ∧ s.ckc.startUp = true ∧ s.ckc.restartPending = false)
  ∧ (s.cpe.captureSet = [] ∧ s.cpe.capture = none)
  ∧ (s.jmg.top = 0 ∧ s.jmg.nextSerial = 0 ∧ s.jmg.generation = 0 ∧ s.jmg.current = none
    ∧ s.jmg.headerWrite = none ∧ s.jmg.headerWaiting = none ∧ s.jmg.headerStale = false
    ∧ s.jmg.wipeCursor = 0)
  ∧ (s.rpe.step = .idle ∧ s.rpe.target = 0 ∧ s.rpe.cursor = 0 ∧ s.rpe.serialBound = 0
    ∧ s.rpe.record = none ∧ s.rpe.retargetPending = false ∧ s.rpe.partialUndo = false
    ∧ s.rpe.haltReason = .none ∧ s.rpe.haltItem = .none ∧ s.rpe.source = .none)
  ∧ (s.hbp.current = none ∧ s.hbp.regions = Vector.replicate 12 ⟨false, 0, 0, .pass, .refuse⟩
    ∧ s.hbp.refusals = [] ∧ s.hbp.lastRefusal = 0 ∧ s.hbp.overflow = 0)
  ∧ s.siu = ⟨.rising, .rising, .rising, .falling, .undoAll, 0, [], false⟩
  ∧ s.atu = ⟨false, 10, 0, 0, 1000, 5000, .alertOnly, Vector.replicate 8 none⟩
  ∧ (s.mbp.outstanding = none ∧ s.mbp.waitHost = none ∧ s.mbp.waitEngine = none ∧ s.mbp.waitService = none
    ∧ s.mbp.lastGrant = .service ∧ s.mbp.watchLimit = 32 ∧ s.mbp.watchCount = 0 ∧ s.mbp.phase = .settle)
  ∧ s.acu = ⟨0, 0, ⟨0, 0, 0, 0, 0, 0, 0, 0⟩, 0⟩
  ∧ (s.svp.page = 0 ∧ s.svp.index = .index 0 ∧ s.svp.staging = [] ∧ s.svp.snapshots = []
    ∧ s.svp.stat = .none ∧ s.svp.cmdTag = 0 ∧ s.svp.cmdFrame = 0 ∧ s.svp.cmdResult = .none
    ∧ s.svp.regionIndex = 0 ∧ s.svp.regionStaging = ⟨false, 0, 0, .pass, .refuse⟩ ∧ s.svp.regStat = .none
    ∧ s.svp.slotIndex = 0 ∧ s.svp.slotLoad = none ∧ s.svp.slotStatus = .none
    ∧ s.svp.slotBytes = List.replicate 16 0 ∧ s.svp.frameIndex = 0)

/-- POR and RSTN take every block to the state right after a power-on reset, whatever the part is doing; the straps
stand until they are sampled (log 32), and the request the host still presents is UNTAKEN. While one holds the part
it takes no strobe or FAULT edge, acknowledges no address, takes no byte and no command, makes no grant and no tick,
and does not answer a host transaction (R93, R110, R127, R130, R139, R184). That an event given in a state where it
cannot occur changes nothing is the model's choice (log 2), and so are the pin fields at reset (log 27). -/
def Obligations.PorAndRstnHoldThePart : Prop :=
  (∀ (i : Instr) (s : State), i = .por ∨ i = .rstn →
     exec i s = .next
       { State.reset with
         straps := s.straps
         hbp :=
           { State.reset.hbp with
             current := s.hbp.current.map fun c => ⟨c.txn, .untaken, .pass, .refuse⟩ }
         pending := s.pending })
  ∧ (∀ (s : State), s.resetHeld = true →
       (∀ (l : StrobeLine) (e : Edge) (a : BitVec 7) (d : Dir) (b : Byte) (k : Bool),
         exec (.strobeEdge l e) s = .next s ∧ exec (.faultEvent e) s = .next s
         ∧ exec (.svcAddressMatch a d) s = .next s ∧ exec (.svcIndexByte b) s = .next s ∧ exec .svcStop s = .next s
         ∧ exec (.registerWrite b) s = .next s ∧ exec (.readSegmentByte k) s = .next s
         ∧ exec .commandTake s = .next s ∧ exec .faultRequestActed s = .next s ∧ exec .gateEntry s = .next s
         ∧ exec .arbiterGrant s = .next s ∧ exec .settleEnd s = .next s ∧ exec .tick s = .next s)
       ∧ (∀ t : HostTxn, s.hbp.current = none →
           exec (.hostRequest t) s = .next
             { s with hbp := { s.hbp with current := some ⟨t, .untaken, .pass, .refuse⟩, answer := .noneYet } }))

/-- RESET_END samples the straps, sets the high-water threshold to capacity − 64 and stands the bus in SETTLE.
With RP other than 3, SCAN presents the read of the first half of copy A; with RP = 3 the part enters BYPASS, start-up
ends, and no memory is read. PL gives the array size, journal base, capacity and high-water reset value of the table
(R49, R58, R92, R95, R104, R105, R171). -/
def Obligations.ResetEndBeginsStartUp : Prop :=
  (∀ (st : Straps) (s : State), s.resetHeld = true → s.ckc.restartPending = false → s.ckc.startUp = true →
     (st.rp ≠ 3 →
       exec (.resetEnd st) s = .next
         { s with
           straps := st
           resetHeld := false
           jmg := { s.jmg with highWater := capacity st - 64, scan := .headers 0 [] }
           mbp :=
             { Mbp.reset with
               waitEngine :=
                 some ⟨.engine, .scanHeaderRead, BitVec.ofNat 24 (journalBase st), .read, .eight, 0xF, []⟩ } })
     ∧ (st.rp = 3 → ∃ t,
         exec (.resetEnd st) s = .next t ∧ Touches [.straps, .resetHeld, .ckc, .jmg, .hbp, .mbp, .acu] s t
         ∧ t.straps = st ∧ t.resetHeld = false ∧ t.ckc.state = .bypass ∧ t.ckc.startUp = false
         ∧ flagSet .start t = true ∧ t.jmg = { s.jmg with highWater := capacity st - 64 }
         ∧ t.mbp.outstanding = none ∧ t.mbp.waitEngine = none ∧ t.mbp.phase = .settle))
  ∧ (∀ s : Straps, (arraySize s, journalBase s, capacity s, highWaterReset s) =
       match s.pl.toNat with
       | 0 => (0x400000, 0x3FE000, 504, 440)
       | 1 => (0x400000, 0x3F8000, 2040, 1976)
       | 2 => (0x400000, 0x3E0000, 8184, 8120)
       | 3 => (0x400000, 0x380000, 32760, 32696)
       | 4 => (0x1000000, 0xFFE000, 504, 440)
       | 5 => (0x1000000, 0xFF8000, 2040, 1976)
       | 6 => (0x1000000, 0xFE0000, 8184, 8120)
       | _ => (0x1000000, 0xF80000, 32760, 32696))

/-- A pending restart takes effect once nothing of R94's list is in flight and no request waits: every block takes
its RESTART value: the owed marks, the wake list and the prescaler and divider are cleared, the flags too, the staging
and snapshots are discarded, and the next frame id, the last outcome, the threshold, the configuration and the refusal
list are kept; a GATE transaction becomes HELD and an UNTAKEN one stays (R25, R48, R70, R91, R127, R128, R148, R159,
R183, R197). The marks of the copies that a failed write has reached are kept as well, which is the model's inference
(R61, log 34). SCAN then presents its first read; under RP = 3 the part enters BYPASS instead, with START set and the
current transaction judged by that state (R104, R105, R119). While a transaction is in service, a header write in flight or a
memory transaction outstanding, RESTART_EFFECT leaves the state as it is. That the row changes nothing before its
time is the model's choice (log 2). -/
def Obligations.RestartTakesEffectWhenWorkHasEnded : Prop :=
  ∀ s : State, s.ckc.restartPending = true →
    ((∀ c, s.hbp.current = some c → c.disposition ≠ .service ∧ c.disposition ≠ .capture) →
      s.jmg.headerWrite = none → s.mbp.outstanding = none → s.mbp.waitHost = none →
      s.mbp.waitEngine = none → s.mbp.waitService = none →
      let restarted : State :=
        { s with
          ckc := { State.reset.ckc with nextFrameId := s.ckc.nextFrameId, last := s.ckc.last }
          cpe := State.reset.cpe
          jmg :=
            { State.reset.jmg with
              highWater := s.jmg.highWater
              failedCopies := s.jmg.failedCopies }
          rpe := { State.reset.rpe with haltReason := s.rpe.haltReason, haltItem := s.rpe.haltItem }
          hbp :=
            { s.hbp with
              current :=
                s.hbp.current.map fun c => if c.disposition = .gate then { c with disposition := .held } else c }
          siu := { s.siu with wakeList := [], wakeFault := false }
          atu := { s.atu with prescaler := 0, divider := 0, owed := Vector.replicate 8 none }
          acu := { s.acu with flags := 0 }
          svp := { s.svp with staging := [], snapshots := [] } }
      (policy s.straps ≠ .bypass →
        exec .restartEffect s = .next
          { restarted with
            jmg := { restarted.jmg with scan := .headers 0 [] }
            mbp :=
              { s.mbp with
                waitEngine :=
                  some ⟨.engine, .scanHeaderRead, BitVec.ofNat 24 (journalBase s.straps), .read, .eight, 0xF, []⟩ } })
      ∧ (policy s.straps = .bypass →
        exec .restartEffect s = .next (rejudge
          { restarted with
            ckc := { restarted.ckc with state := .bypass, startUp := false }
            acu := { s.acu with flags := 0x1000 } })))
    ∧ ((∃ c, s.hbp.current = some c ∧ (c.disposition = .service ∨ c.disposition = .capture))
        ∨ s.jmg.headerWrite ≠ none ∨ s.mbp.outstanding ≠ none →
      exec .restartEffect s = .next s)

/-! ## Host traffic -/

/-- The first check of R112 that fails decides the refusal of a transaction taken at once, and no memory
transaction is made for it. A refusal answers FAULT, with zero bytes for a read; it takes the next refusal number,
sets the flag REFUSED, increments REFUSALS, and enters the list at its tail, or is counted in the overflow count when
the list holds 8; nothing else changes (R111, R112, R125). -/
def Obligations.FailedChecksRefuseAndAreRecorded : Prop :=
  (∀ (s : State) (t : HostTxn), TakesAtOnce s →
     let a := t.addr.toNat
     let n := Len.cells t.len
     (a % 4 ≠ 0 → exec (.hostRequest t) s = .next (refuseTxn t .misaligned s))
     ∧ (a % 4 = 0 → a % 32 + 4 * n > 32 → exec (.hostRequest t) s = .next (refuseTxn t .crossing s))
     ∧ (a % 4 = 0 → a % 32 + 4 * n ≤ 32 → arraySize s.straps ≤ a →
         exec (.hostRequest t) s = .next (refuseTxn t .outOfArray s))
     ∧ (a % 4 = 0 → a % 32 + 4 * n ≤ 32 → a < arraySize s.straps → journalBase s.straps ≤ a →
         s.ckc.state ≠ .bypass → exec (.hostRequest t) s = .next (refuseTxn t .journalArea s)))
  ∧ (∀ (t : HostTxn) (why : Reason) (s : State),
       let n := s.hbp.lastRefusal + 1
       refuseTxn t why s =
         { s with
           hbp :=
             { s.hbp with
               current := none
               answer := .fault (if t.dir = .read then List.replicate (Len.cells t.len) ⟨0, 0, 0, 0⟩ else [])
               lastRefusal := n
               refusals :=
                 if s.hbp.refusals.length < 8 then s.hbp.refusals ++ [⟨n, t.addr, t.dir, t.len, why⟩]
                 else s.hbp.refusals
               overflow :=
                 if s.hbp.refusals.length < 8 then s.hbp.overflow
                 else if s.hbp.overflow < 255 then s.hbp.overflow + 1 else s.hbp.overflow }
           acu :=
             { s.acu with
               flags := s.acu.flags ||| 0x200
               counters := { s.acu.counters with refusals := satAdd s.acu.counters.refusals 1 } } })

/-- The lookup answers the class and full policy of the lowest-numbered valid descriptor whose span, base
inclusive and limit exclusive, contains the address, and PASS where there is none (R114). -/
def Obligations.LookupTakesLowestNumberedDescriptor : Prop :=
  ∀ (regions : Vector Region 12) (a : Addr),
    let holds := fun i : Fin 12 =>
      regions[i].valid = true ∧ regions[i].base.toNat ≤ a.toNat ∧ a.toNat < regions[i].limit.toNat
    (∀ i : Fin 12, holds i → (∀ j : Fin 12, j < i → ¬ holds j) →
      lookupRegion regions a = (regions[i].cls, regions[i].policy))
    ∧ ((∀ i : Fin 12, ¬ holds i) → (lookupRegion regions a).1 = .pass)

/-- Where every valid descriptor's base and limit are multiples of 64, every cell of a transaction that passes
the alignment and burst checks has the class of its first address; and a transaction that passes the four checks lies
wholly inside the array and, outside BYPASS, wholly below the journal area (R112, R114). -/
def Obligations.CheckedBurstHasOneClassAndPlace : Prop :=
  (∀ (regions : Vector Region 12) (t : HostTxn),
     (∀ i : Fin 12, regions[i].valid = true →
       regions[i].base.toNat % 64 = 0 ∧ regions[i].limit.toNat % 64 = 0) →
     t.addr.toNat % 4 = 0 → t.addr.toNat % 32 + 4 * Len.cells t.len ≤ 32 →
     ∀ a ∈ cellsOf t, lookupRegion regions a = lookupRegion regions t.addr)
  ∧ (∀ (s : State) (t : HostTxn), firstFailedCheck s t = none → ∀ a ∈ cellsOf t,
       a.toNat + 4 ≤ arraySize s.straps ∧ (s.ckc.state ≠ .bypass → a.toNat + 4 ≤ journalBase s.straps))

/-- A transaction taken at once that passes the checks, and is no empty-enable write, is disposed of by the
class of its address, its direction, the controller state and, for STEADY writes, the depth, as the table of
R118 says: it is put in SERVICE with its memory transaction presented, refused, HELD, or put in GATE. -/
def Obligations.HostRequestFollowsTheDispositionTable : Prop :=
  ∀ (s : State) (t : HostTxn), TakesAtOnce s → firstFailedCheck s t = none → isEmptyWrite t = false →
    let r := lookupRegion s.hbp.regions t.addr
    let wait := fun d : Disposition =>
      { s with hbp := { s.hbp with current := some ⟨t, d, r.1, r.2⟩, answer := .noneYet } }
    let pass := { wait .service with mbp := { s.mbp with waitHost := some (mirrorRequest t) } }
    exec (.hostRequest t) s = .next
      (match r.1, t.dir with
        | .pass, _ => pass
        | .barred, _ => refuseTxn t .barred s
        | .steady, .read => pass
        | .steady, .write => if s.ckc.frames = [] then pass else refuseTxn t .steadyLocked s
        | .journaled, d =>
          match s.ckc.state, d with
          | .halted, _ => refuseTxn t .halted s
          | .replay, _ => wait .held
          | .bypass, _ => pass
          | _, .read => pass
          | .unformatted, .write => refuseTxn t .unformatted s
          | .await, .write => refuseTxn t .awaiting s
          | .wipe, .write => refuseTxn t .wiping s
          | _, .write => wait .gate)

/-- A host transaction presented in SCAN or RECOVER or with a restart pending stays UNTAKEN; presented in DORMANT it
stays UNTAKEN and starts the wake, or joins the one in progress. A taken single-cell write with no byte enable set
makes no memory transaction: in a PASS or JOURNALED region, and in a STEADY region at depth 0, it is answered OKAY;
a STEADY region at depth 1 or more and a BARRED region refuse it; it takes no place in GATE (R80, R94, R109, R110,
R113, R118). The class and policy of an UNTAKEN transaction are the model's placeholders (log 27). -/
def Obligations.UntakenAndEmptyRequestsNeedNoMemory : Prop :=
  (∀ (s : State) (t : HostTxn), s.hbp.current = none → s.resetHeld = false →
     let h := { s.hbp with current := some ⟨t, .untaken, .pass, .refuse⟩, answer := .noneYet }
     (s.ckc.state = .scan ∨ s.ckc.state = .recover ∨ (s.ckc.restartPending = true ∧ s.ckc.state ≠ .dormant) →
       exec (.hostRequest t) s = .next { s with hbp := h })
     ∧ (s.ckc.state = .dormant → s.ckc.waking = false →
       exec (.hostRequest t) s = .next
         { s with hbp := h, ckc := { s.ckc with waking := true, wakeCount := 0 } })
     ∧ (s.ckc.state = .dormant → s.ckc.waking = true → exec (.hostRequest t) s = .next { s with hbp := h }))
  ∧ (∀ (s : State) (t : HostTxn), TakesAtOnce s → firstFailedCheck s t = none → t.dir = .write → t.len = .one →
       t.be = 0 →
       let okay := { s with hbp := { s.hbp with current := none, answer := .okay [] } }
       exec (.hostRequest t) s = .next
         (match (lookupRegion s.hbp.regions t.addr).1 with
           | .pass | .journaled => okay
           | .steady => if s.ckc.frames = [] then okay else refuseTxn t .steadyLocked s
           | .barred => refuseTxn t .barred s))

/-- When CKC has entered a state, HBP judges the current transaction again. A HELD or GATE one of class
JOURNALED stays HELD in SCAN, RECOVER, DORMANT and REPLAY, is refused in HALTED, and otherwise a read passes,
while a write goes to GATE, passes in BYPASS, or is refused by the state that stands. One in SERVICE or CAPTURE,
and no transaction at all, are left alone. An UNTAKEN one stays so in SCAN, RECOVER and DORMANT, with a restart pending
and under a reset; in any other state it is taken as a new transaction: the first check that fails refuses it, an
empty-enable write needs no memory, and otherwise its class, its direction, the state and, for STEADY writes, the depth
dispose of it (R80, R110, R112, R113, R118, R119, R127). -/
def Obligations.HeldTransactionIsJudgedAgain : Prop :=
  ∀ (s : State),
    (s.hbp.current = none → rejudge s = s)
    ∧ ∀ c : Current, s.hbp.current = some c →
      (c.disposition = .service ∨ c.disposition = .capture → rejudge s = s)
      ∧ (c.disposition = .held ∨ c.disposition = .gate → c.cls = .journaled → s.ckc.restartPending = false →
        let wait := fun d : Disposition =>
          { s with hbp := { s.hbp with current := some { c with disposition := d } } }
        let pass := { wait .service with mbp := { s.mbp with waitHost := some (mirrorRequest c.txn) } }
        rejudge s =
          match s.ckc.state, c.txn.dir with
          | .scan, _ | .recover, _ | .dormant, _ | .replay, _ => wait .held
          | .halted, _ => refuseTxn c.txn .halted s
          | .bypass, _ => pass
          | _, .read => pass
          | .unformatted, .write => refuseTxn c.txn .unformatted s
          | .await, .write => refuseTxn c.txn .awaiting s
          | .wipe, .write => refuseTxn c.txn .wiping s
          | _, .write => wait .gate)
      ∧ (c.disposition = .untaken →
        s.ckc.state = .scan ∨ s.ckc.state = .recover ∨ s.ckc.state = .dormant ∨ s.ckc.restartPending = true
          ∨ s.resetHeld = true →
        rejudge s = s)
      ∧ (c.disposition = .untaken → s.ckc.state ≠ .scan → s.ckc.state ≠ .recover → s.ckc.state ≠ .dormant →
        s.ckc.restartPending = false → s.resetHeld = false →
        let t := c.txn
        let r := lookupRegion s.hbp.regions t.addr
        let wait := fun d : Disposition =>
          { s with hbp := { s.hbp with current := some ⟨t, d, r.1, r.2⟩ } }
        let pass := { wait .service with mbp := { s.mbp with waitHost := some (mirrorRequest t) } }
        let okay := { s with hbp := { s.hbp with current := none, answer := .okay [] } }
        (∀ why, firstFailedCheck s t = some why → rejudge s = refuseTxn t why s)
        ∧ (firstFailedCheck s t = none → t.dir = .write → t.len = .one → t.be = 0 →
          rejudge s =
            match r.1 with
            | .pass | .journaled => okay
            | .steady => if s.ckc.frames = [] then okay else refuseTxn t .steadyLocked s
            | .barred => refuseTxn t .barred s)
        ∧ (firstFailedCheck s t = none → ¬ (t.dir = .write ∧ t.len = .one ∧ t.be = 0) →
          rejudge s =
            match r.1, t.dir with
            | .pass, _ => pass
            | .barred, _ => refuseTxn t .barred s
            | .steady, .read => pass
            | .steady, .write => if s.ckc.frames = [] then pass else refuseTxn t .steadyLocked s
            | .journaled, d =>
              match s.ckc.state, d with
              | .halted, _ => refuseTxn t .halted s
              | .replay, _ => wait .held
              | .bypass, _ => pass
              | _, .read => pass
              | .unformatted, .write => refuseTxn t .unformatted s
              | .await, .write => refuseTxn t .awaiting s
              | .wipe, .write => refuseTxn t .wiping s
              | _, .write => wait .gate))

/-- The memory transaction that stands for a host transaction has its address, direction and length, and for a
write its data, with the host's byte enables for one cell and all four set for more. When it completes the host is
answered OKAY, with the cells read for a read; when it fails the host is refused with MEMORY_ERROR and MEMERR is set.
A JOURNALED write releases the gate in either case (R8, R121, R166). -/
def Obligations.PassThroughMirrorsAndAnswers : Prop :=
  (∀ t : HostTxn,
     (t.dir = .read → mirrorRequest t = ⟨.host, .passThrough, t.addr, .read, t.len, 0xF, []⟩)
     ∧ (t.dir = .write → mirrorRequest t =
         ⟨.host, .passThrough, t.addr, .write, t.len, if t.len = .one then t.be else 0xF,
           (Vector.toList t.data).take (Len.cells t.len)⟩))
  ∧ (∀ (s : State) (c : Current) (cells : Beats), Awaits .passThrough s → s.hbp.current = some c →
       let s1 :=
         { s with
           mbp := answered s.mbp
           ckc :=
             { s.ckc with
               gateHeld := if c.cls = .journaled ∧ c.txn.dir = .write then false else s.ckc.gateHeld } }
       exec (.passThroughEnd (.done cells)) s = .next
         { s1 with
           hbp :=
             { s.hbp with
               current := none
               answer :=
                 .okay (if c.txn.dir = .read then (Vector.toList cells).take (Len.cells c.txn.len) else []) } }
       ∧ exec (.passThroughEnd .error) s = .next (refuseTxn c.txn .memoryError (raise .memerr s1)))

/-! ## The gate and the capture -/

/-- At depth 0 a write that the gate lets in holds the gate and passes to memory without capture. A write whose gate
is shut by any condition of R8, or by a pending restart, stays in GATE, and with no write in GATE nothing happens
(R8, R94, R120, R121). That GATE_ENTRY changes nothing where its conditions do not hold is the model's choice (log
2). -/
def Obligations.GateHoldsWritesAndPassesThemAtDepthZero : Prop :=
  (∀ (s : State) (c : Current), GateLetsIn c s → s.ckc.frames = [] →
    exec .gateEntry s = .next
      { s with
        ckc := { s.ckc with gateHeld := true }
        hbp := { s.hbp with current := some { c with disposition := .service } }
        mbp := { s.mbp with waitHost := some (mirrorRequest c.txn) } })
  ∧ ∀ s : State,
    (s.ckc.state ≠ .ready ∨ s.ckc.queue ≠ [] ∨ s.ckc.inService ≠ none ∨ s.ckc.faultRequest = true
      ∨ s.ckc.gateHeld = true ∨ s.ckc.restartPending = true ∨ s.resetHeld = true
      ∨ ∀ c, s.hbp.current = some c → c.disposition ≠ .gate) →
    exec .gateEntry s = .next s

/-- At depth 1 or more a write that the gate lets in is checked by CPE, in this order: no cell needs capture
(ALREADY rises and the host write is presented); HEADER_STALE; a serial would pass `$FFFF_FFFF_FFFF`; enough free
slots (the pre-image read is presented with the slots reserved); otherwise FULL, and the write is refused
JOURNAL_FULL under policy REFUSE or, under BREACH, goes on without records with BREACH raised, BREACHES counted and
every open frame broken. A refusal releases the gate and leaves no record (R26, R28, R33, R34, R39, R43, R44). The
byte enables of a read are the model's choice (log 24). -/
def Obligations.GateEntryChecksTheCapture : Prop :=
  ∀ (s : State) (c : Current), GateLetsIn c s → s.ckc.frames ≠ [] → s.cpe.capture = none →
    let n := s.ckc.frames.length
    let list := (cellsOf c.txn).filter fun a => decide ((⟨a, n⟩ : CaptureEntry) ∉ s.cpe.captureSet)
    let m := list.length
    let k : Capture := ⟨c.txn, n, c.policy, .check, list, 0, [], 0, false⟩
    let write : MemRequest :=
      ⟨.host, .captureWrite, c.txn.addr, .write, c.txn.len, enablesOf c.txn, dataOf c.txn⟩
    let read : MemRequest := ⟨.host, .preImageRead, c.txn.addr, .read, c.txn.len, 0xF, []⟩
    let begun := fun (k : Capture) (r : MemRequest) =>
      { s with
        ckc := { s.ckc with gateHeld := true }
        cpe := { s.cpe with capture := some k }
        hbp := { s.hbp with current := some { c with disposition := .capture } }
        mbp := { s.mbp with waitHost := some r } }
    exec .gateEntry s = .next
      (if m = 0 then
        { begun { k with step := .write } write with
          acu :=
            { s.acu with
              counters := { s.acu.counters with already := satAdd s.acu.counters.already 1 } } }
      else if s.jmg.headerStale = true then refuseTxn c.txn .headerStale s
      else if s.jmg.nextSerial + m - 1 > 0xFFFFFFFFFFFF then refuseTxn c.txn .serialSpent s
      else if m ≤ capacity s.straps - s.jmg.top then begun { k with step := .read, reserved := m } read
      else if c.policy = .refuse then refuseTxn c.txn .journalFull (raise .full s)
      else
        { begun { k with step := .write, breach := true } write with
          ckc :=
            { s.ckc with
              gateHeld := true
              frames := s.ckc.frames.map fun f => { f with broken := true } }
          acu :=
            { s.acu with
              flags := s.acu.flags ||| 0x6
              counters := { s.acu.counters with breaches := satAdd s.acu.counters.breaches 1 } } })

/-- A completed pre-image read keeps the pre-image of each listed cell, and the first record, with the next serial,
which is consumed, is presented at the slot of top; a failed one refuses the write with MEMORY_ERROR, releases the
gate, and leaves no record and no entry. A completed record raises top by 1 and CAPTURES by 1, sets HIGH when top
reaches the high-water threshold, and is followed by the next record or, after the last reserved one, by the host
write (R35 to R37, R40, R53, R57). That the serial is consumed when the append is presented is the model's inference
(log 7). -/
def Obligations.RecordsAreWrittenBeforeTheHostWrite : Prop :=
  (∀ (s : State) (k : Capture) (h : Current) (cells : Beats), Awaits .preImageRead s →
     s.cpe.capture = some k → s.hbp.current = some h → k.appended = 0 →
     let pre := k.list.map fun a =>
       ((Vector.toList cells).take (Len.cells k.write.len)).getD ((a - k.write.addr).toNat / 4) ⟨0, 0, 0, 0⟩
     let r : Record := ⟨k.list.getD 0 0, pre.getD 0 ⟨0, 0, 0, 0⟩, s.jmg.nextSerial⟩
     exec (.preImageReadEnd (.done cells)) s = .next
       { s with
         cpe := { s.cpe with capture := some { k with step := .append, preImages := pre } }
         jmg := { s.jmg with nextSerial := s.jmg.nextSerial + 1 }
         mbp :=
           { answered s.mbp with
             waitHost :=
               some ⟨.host, .append, slotAddr s.straps s.jmg.top, .write, .four, 0xF,
                 cellsOfBytes (recordBytes r)⟩ } }
     ∧ exec (.preImageReadEnd .error) s = .next
       (refuseTxn h.txn .memoryError (raise .memerr
         { s with
           mbp := answered s.mbp
           cpe := { s.cpe with capture := none }
           ckc := { s.ckc with gateHeld := false } })))
  ∧ (∀ (s : State) (k : Capture), Awaits .append s → s.cpe.capture = some k →
       let top := s.jmg.top + 1
       let s1 :=
         { s with
           acu :=
             { s.acu with
               flags := if top = s.jmg.highWater then s.acu.flags ||| 0x1 else s.acu.flags
               counters := { s.acu.counters with captures := satAdd s.acu.counters.captures 1 } } }
       (k.appended + 1 < k.reserved →
         let r : Record :=
           ⟨k.list.getD (k.appended + 1) 0, k.preImages.getD (k.appended + 1) ⟨0, 0, 0, 0⟩, s.jmg.nextSerial⟩
         exec (.appendEnd .done) s = .next
           { s1 with
             cpe := { s.cpe with capture := some { k with appended := k.appended + 1, step := .append } }
             jmg := { s.jmg with top := top, nextSerial := s.jmg.nextSerial + 1 }
             mbp :=
               { answered s.mbp with
                 waitHost :=
                   some ⟨.host, .append, slotAddr s.straps top, .write, .four, 0xF,
                     cellsOfBytes (recordBytes r)⟩ } })
       ∧ (k.reserved ≤ k.appended + 1 →
         exec (.appendEnd .done) s = .next
           { s1 with
             cpe := { s.cpe with capture := some { k with appended := k.appended + 1, step := .write } }
             jmg := { s.jmg with top := top }
             mbp :=
               { answered s.mbp with
                 waitHost :=
                   some ⟨.host, .captureWrite, k.write.addr, .write, k.write.len, enablesOf k.write,
                     dataOf k.write⟩ } }))

/-- The end of a capture, by a host write that completes, a record that fails or a host write that fails, makes
an entry of the capture set for each completed record, discards the capture, releases the gate and answers the
host: OKAY, or a refusal MEMORY_ERROR with top, the serial and the completed records left as they are (R30,
R37, R39, R41, R42). -/
def Obligations.CaptureEndsWithEntriesForItsRecords : Prop :=
  ∀ (s : State) (k : Capture) (h : Current), s.cpe.capture = some k → s.hbp.current = some h →
    let u := insertEntries k.level (k.list.take k.appended) { s with mbp := answered s.mbp }
    let closed :=
      { u with cpe := { u.cpe with capture := none }, ckc := { u.ckc with gateHeld := false } }
    (Awaits .captureWrite s →
      exec (.captureWriteEnd .done) s = .next
        { closed with hbp := { s.hbp with current := none, answer := .okay [] } }
      ∧ exec (.captureWriteEnd .error) s = .next (refuseTxn h.txn .memoryError (raise .memerr closed)))
    ∧ (Awaits .append s →
      exec (.appendEnd .error) s = .next (refuseTxn h.txn .memoryError (raise .memerr closed)))

/-- Entries are made in order while the capture set holds fewer than 1024; each one that finds it full is
counted in UNTRACKED, and nothing else changes. Closing level d by KEEP turns each entry of level d into one of level
d − 1, drops it where the cell has one there already, and leaves the other levels alone; popping level l removes the
entries of level l and above; no two entries become alike (R27, R30 to R32). -/
def Obligations.CaptureSetFollowsItsRules : Prop :=
  (∀ (level : Nat) (cells : List Addr) (s : State), cells.Nodup →
     (∀ a ∈ cells, (⟨a, level⟩ : CaptureEntry) ∉ s.cpe.captureSet) →
     let room := 1024 - s.cpe.captureSet.length
     insertEntries level cells s =
       { s with
         cpe :=
           { s.cpe with
             captureSet := s.cpe.captureSet ++ (cells.take room).map fun a => ⟨a, level⟩ }
         acu :=
           { s.acu with
             counters :=
               { s.acu.counters with
                 untracked := satAdd s.acu.counters.untracked (cells.length - room) } } })
  ∧ (∀ (d : Nat) (set : List CaptureEntry), 1 ≤ d → set.Nodup →
       (relabelSet d set).Nodup ∧ (relabelSet d set).length ≤ set.length
       ∧ (∀ (a : Addr) (l : Nat), (⟨a, l⟩ : CaptureEntry) ∈ relabelSet d set ↔
           l ≠ d ∧ ((⟨a, l⟩ : CaptureEntry) ∈ set ∨ l + 1 = d ∧ (⟨a, d⟩ : CaptureEntry) ∈ set))
       ∧ ∀ (a : Addr) (l : Nat), (⟨a, l⟩ : CaptureEntry) ∈ cutSet d set ↔
           l < d ∧ (⟨a, l⟩ : CaptureEntry) ∈ set)

/-! ## Header writes and commands -/

/-- A header write goes to the copy that is not current, or to copy A when none is, with the generation one above
the header generation and the stored next serial, and its first 32 bytes are presented; asked for while another is
in flight, it waits. When the first half completes the other 32 bytes are presented. A request that waits behind a SYNC
write is issued when that write has completed or failed, by the copy and generation that then stand; with a restart
pending it goes on waiting. The next serial is stored as it is below `$FFFF_FFFF_FFFF`, and as that number from there
on, the spent value included (R54, R61, R62, R64, R70, R94). That the contents are fixed when the first half is presented
is the model's inference (log 7). -/
def Obligations.HeaderWriteAlternatesCopies : Prop :=
  (∀ n : Nat, storeSerial n = if n < 0xFFFFFFFFFFFF then n else 0xFFFFFFFFFFFF) ∧
  (∀ (s : State) (p : HeaderPurpose) (f : HeaderFields), s.ckc.restartPending = false →
    let copy := if s.jmg.current = some .a then Copy.b else Copy.a
    let h : Header := ⟨s.jmg.generation + 1, f, storeSerial s.jmg.nextSerial⟩
    let addr : Addr := BitVec.ofNat 24 (journalBase s.straps + (if copy = .a then 0 else 64))
    (s.jmg.headerWrite = none →
      requestHeader p f s =
        { s with
          jmg := { s.jmg with headerWrite := some ⟨p, copy, h, false⟩, headerWaiting := none }
          mbp :=
            { s.mbp with
              waitEngine :=
                some ⟨.engine, .headerHalf, addr, .write, .eight, 0xF,
                  cellsOfBytes ((headerBytes h).take 32)⟩ } })
    ∧ (s.jmg.headerWrite ≠ none →
      requestHeader p f s = { s with jmg := { s.jmg with headerWaiting := some ⟨p, f⟩ } }))
  ∧ (∀ (s : State) (w : HeaderWrite) (r : HeaderRequest), Awaits .headerHalf s → s.jmg.headerWrite = some w →
      w.purpose = .sync → s.jmg.headerWaiting = some r →
    let written :=
      { s with
        mbp := answered s.mbp
        jmg := headerDone w s.jmg
        rpe :=
          { s.rpe with
            retargetPending :=
              if w.contents.fields.state = .replaying ∧ w.contents.fields.target = 0 then false
              else s.rpe.retargetPending } }
    let failed :=
      { s with
        mbp := answered s.mbp
        jmg := headerLost w s.jmg
        acu := { s.acu with flags := s.acu.flags ||| 0x400 } }
    let issued := fun u : State =>
      if s.ckc.restartPending = true then u
      else requestHeader r.purpose r.fields { u with jmg := { u.jmg with headerWaiting := none } }
    (w.second = true → exec (.headerHalfWriteEnd .done) s = .next (issued written))
    ∧ exec (.headerHalfWriteEnd .error) s = .next (issued failed))
  ∧ ∀ (s : State) (w : HeaderWrite), Awaits .headerHalf s → s.jmg.headerWrite = some w → w.second = false →
    exec (.headerHalfWriteEnd .done) s = .next
      { s with
        jmg := { s.jmg with headerWrite := some { w with second := true } }
        mbp :=
          { answered s.mbp with
            waitEngine :=
              some ⟨.engine, .headerHalf,
                BitVec.ofNat 24 (journalBase s.straps + (if w.copy = .a then 0 else 64) + 32), .write, .eight, 0xF,
                cellsOfBytes (((headerBytes w.contents).drop 32).take 32)⟩ } }

/-- A command that CKC takes and its checks decide completes at that moment, with no level selected: REJECT is set,
the last outcome record shows it, and AWAIT is left for READY. In UNFORMATTED a MARK completes UNFORMATTED, an
UNDO_TO STALE and the rest NO_LEVEL; in BYPASS all complete BYPASSED; otherwise a MARK at depth 8 completes
DEPTH_LIMIT, an UNDO_TO that no frame's id matches STALE, and a KEEP, UNDO or UNDO_ALL at depth 0 NO_LEVEL. CKC
leaves the queue alone while a command is in service, a JOURNALED write holds the gate, a restart is pending, or the
fault request waits in READY or AWAIT, and in a state that takes no commands (R2, R7, R11, R13, R17, R18, R21 to
R23, R94). That COMMAND_TAKE changes nothing where CKC takes no command is the model's choice (log 2). -/
def Obligations.ChecksDecideACommandAtOnce : Prop :=
  (∀ (s : State) (e : QueueEntry) (rest : List QueueEntry) (o : CmdOutcome), MayTake s →
     s.ckc.startUp = false → s.ckc.queue = e :: rest →
     (match s.ckc.state, e.kind with
       | .unformatted, .mark _ => o = .unformatted
       | .unformatted, .undoTo _ => o = .stale
       | .unformatted, _ => o = .noLevel
       | .bypass, _ => o = .bypassed
       | _, .mark _ => s.ckc.frames.length = 8 ∧ o = .depthLimit
       | _, .undoTo id => (∀ f ∈ s.ckc.frames, f.id ≠ id) ∧ o = .stale
       | _, _ => s.ckc.frames = [] ∧ o = .noLevel) →
     exec .commandTake s = .next (rejudge
       { s with
         ckc :=
           { s.ckc with
             state := if s.ckc.state = .await then .ready else s.ckc.state
             queue := rest
             last :=
               ⟨QueueSource.source e.source, QueueKind.cmdKind e.kind,
                 match e.kind with | .mark tag => tag | _ => 0,
                 match e.kind with | .mark _ => s.ckc.nextFrameId | .undoTo id => id | _ => 0, o⟩ }
         acu := { s.acu with flags := s.acu.flags ||| 0x2000 } }))
  ∧ (∀ s : State,
       (s.ckc.queue = [] ∨ s.ckc.inService ≠ none ∨ s.ckc.gateHeld = true ∨ s.ckc.restartPending = true
         ∨ (s.ckc.faultRequest = true ∧ (s.ckc.state = .ready ∨ s.ckc.state = .await))
         ∨ (s.ckc.state ≠ .ready ∧ s.ckc.state ≠ .await ∧ s.ckc.state ≠ .unformatted ∧ s.ckc.state ≠ .bypass)) →
       exec .commandTake s = .next s)

/-- A command that passes its checks enters service. A MARK below depth 8 moves CKC to ENTER and asks for an
OPEN header with the new level at top; a KEEP at depth 1 or more moves it to MERGE and asks for a header of the
stack without the top level; an undo moves it to REPLAY, hands RPE its target (the depth below the top level,
0, or that below the lowest level whose id is named) and asks for a REPLAYING header (R11, R13, R17, R18, R20,
R71). -/
def Obligations.PassedChecksStartTheCommand : Prop :=
  ∀ (s : State) (src : QueueSource) (kind : QueueKind) (rest : List QueueEntry), MayTake s →
    s.ckc.state = .ready ∨ s.ckc.state = .await → s.ckc.startUp = false → s.ckc.queue = ⟨src, kind⟩ :: rest →
    let fs := s.ckc.frames
    let n := fs.length
    let serving := fun (st : CtrlState) (target : Nat) =>
      rejudge
        { s with
          ckc :=
            { s.ckc with
              state := st
              queue := rest
              inService := some ⟨QueueSource.source src, kind, target⟩ } }
    let undo := fun (target : Nat) =>
      requestHeader .undoOpening ⟨.replaying, n, target, brokenFlags fs, s.jmg.top, levelEntries fs⟩
        { serving .replay target with
          rpe :=
            { s.rpe with
              step := .opening
              target := target
              serialBound := s.jmg.nextSerial
              record := none
              retargetPending := false
              partialUndo := false
              source := QueueSource.source src
              skipOwed := false
              openingOwed := false } }
    (∀ tag, kind = .mark tag → n < 8 →
      exec .commandTake s = .next
        (requestHeader .markOpening
          ⟨.opened, n + 1, 0, brokenFlags fs, s.jmg.top, levelEntries fs ++ [⟨s.jmg.top, tag⟩]⟩
          (serving .enter 0)))
    ∧ (kind = .keep → 2 ≤ n →
      exec .commandTake s = .next
        (requestHeader .keepHeader
          ⟨.opened, n - 1, 0, brokenFlags fs.dropLast, s.jmg.top, levelEntries fs.dropLast⟩ (serving .merge 0)))
    ∧ (kind = .keep → n = 1 →
      exec .commandTake s = .next
        (requestHeader .keepHeader ⟨.clean, 0, 0, 0, 0, []⟩ (serving .merge 0)))
    ∧ (kind = .undo → 1 ≤ n → exec .commandTake s = .next (undo (n - 1)))
    ∧ (kind = .undoAll → 1 ≤ n → exec .commandTake s = .next (undo 0))
    ∧ (∀ id target, kind = .undoTo id → (fs[target]?).map Frame.id = some id →
        (∀ j, j < target → (fs[j]?).map Frame.id ≠ some id) → exec .commandTake s = .next (undo target))

/-- CKC acts on the fault request in READY or AWAIT with the gate free: it clears the request and, at depth 1 or
more, starts an undo to depth 0 with source FAULT. With the gate held the request waits (R10); that
FAULT_REQUEST_ACTED, given then, changes nothing is the model's choice (log 2). -/
def Obligations.FaultRequestUndoesEverything : Prop :=
  ∀ s : State, s.ckc.faultRequest = true → s.ckc.restartPending = false → s.resetHeld = false →
    s.ckc.startUp = false → s.ckc.state = .ready ∨ s.ckc.state = .await →
    let fs := s.ckc.frames
    (s.ckc.gateHeld = false → fs = [] →
      exec .faultRequestActed s = .next { s with ckc := { s.ckc with faultRequest := false } })
    ∧ (s.ckc.gateHeld = false → fs ≠ [] →
      exec .faultRequestActed s = .next
        (requestHeader .undoOpening ⟨.replaying, fs.length, 0, brokenFlags fs, s.jmg.top, levelEntries fs⟩
          { rejudge
              { s with
                ckc :=
                  { s.ckc with
                    state := .replay
                    faultRequest := false
                    inService := some ⟨.fault, .undoAll, 0⟩ } } with
            rpe :=
              { s.rpe with
                step := .opening
                target := 0
                serialBound := s.jmg.nextSerial
                record := none
                retargetPending := false
                partialUndo := false
                source := .fault
                skipOwed := false
                openingOwed := false } }))
    ∧ (s.ckc.gateHeld = true → exec .faultRequestActed s = .next s)

/-- A MARK whose header write completes pushes its frame: the next level, start at top, the tag, the next frame
id, origin by source, age 0, no flag set; the next frame id increments, the outcome is DONE and CKC returns to
READY (R4, R5, R12). While a restart is pending
nothing is recorded (R25, R89), which is how the model reads R94 (log 33). -/
def Obligations.MarkPushesItsFrame : Prop :=
  ∀ (s : State) (w : HeaderWrite) (src : Source) (tag : Word16) (t0 : Nat), SecondHalf .markOpening w s →
    s.ckc.inService = some ⟨src, .mark tag, t0⟩ → s.ckc.frames.length < 8 → s.ckc.startUp = false →
    exec (.headerHalfWriteEnd .done) s = .next (rejudge
      { s with
        mbp := answered s.mbp
        jmg := headerDone w s.jmg
        ckc :=
          { s.ckc with
            state := .ready
            frames :=
              s.ckc.frames ++
                [⟨s.ckc.frames.length + 1, s.jmg.top, tag, s.ckc.nextFrameId,
                  if src = .strobe then .strobe else .service, 0, false, false, false⟩]
            nextFrameId := s.ckc.nextFrameId + 1
            inService := none
            last :=
              if s.ckc.restartPending = true then s.ckc.last
              else ⟨src, .mark, tag, s.ckc.nextFrameId, .done⟩ } })

/-- A KEEP whose header write completes closes the top level: above level 1 the capture set is relabelled and
top stays; level 1 is committed, with top 0 and the capture set empty. The outcome is DONE with the tag and id of
the level closed, and CKC returns to READY (R15, R16, R23). While a restart is pending
nothing is recorded (R25, R89), which is how the model reads R94 (log 33). -/
def Obligations.KeepMergesOrCommitsTheTopLevel : Prop :=
  ∀ (s : State) (w : HeaderWrite) (src : Source) (t0 : Nat) (f : Frame), SecondHalf .keepHeader w s →
    s.ckc.inService = some ⟨src, .keep, t0⟩ → s.ckc.frames.getLast? = some f → s.ckc.startUp = false →
    let n := s.ckc.frames.length
    exec (.headerHalfWriteEnd .done) s = .next (rejudge
      { s with
        mbp := answered s.mbp
        jmg := if n = 1 then { headerDone w s.jmg with top := 0 } else headerDone w s.jmg
        cpe :=
          { s.cpe with captureSet := if n = 1 then [] else relabelSet n s.cpe.captureSet }
        ckc :=
          { s.ckc with
            state := .ready
            frames := s.ckc.frames.dropLast
            inService := none
            last :=
              if s.ckc.restartPending = true then s.ckc.last else ⟨src, .keep, f.tag, f.id, .done⟩ } })

/-- A MARK or KEEP whose header write fails in either half completes HEADER_FAILED: MEMERR and REJECT are set,
the last outcome record shows it, CKC returns to READY, and the stack, the next frame id, the capture set, top,
the current copy and the generation stay as they were, while the copy the write reached is marked, to be taken as not
valid whatever memory holds (R12, R14, R61, R166). While a restart is pending neither the
record nor REJECT is written (R25), which is how the model reads R94 (log 33). -/
def Obligations.FailedHeaderLeavesTheStack : Prop :=
  ∀ (s : State) (w : HeaderWrite) (c : InService), s.ckc.inService = some c → s.ckc.startUp = false →
    let pending := s.ckc.restartPending = true
    let failed := fun (o : LastOutcome) =>
      rejudge
        { s with
          mbp := answered s.mbp
          jmg := headerLost w s.jmg
          ckc := { s.ckc with state := .ready, inService := none, last := if pending then s.ckc.last else o }
          acu := { s.acu with flags := s.acu.flags ||| 0x400 ||| (if pending then 0 else 0x2000) } }
    (∀ tag, EitherHalf .markOpening w s → c.kind = .mark tag →
      exec (.headerHalfWriteEnd .error) s = .next
        (failed ⟨c.source, .mark, tag, s.ckc.nextFrameId, .headerFailed⟩))
    ∧ (∀ f, EitherHalf .keepHeader w s → c.kind = .keep → s.ckc.frames.getLast? = some f →
      exec (.headerHalfWriteEnd .error) s = .next
        (failed ⟨c.source, .keep, f.tag, f.id, .headerFailed⟩))

/-! ## Undo -/

/-- An undo's opening header that completes begins the walk with the halt reason and item NONE. One that fails ends
the command HEADER_FAILED with nothing undone, and a FAULT that fell meanwhile becomes a fault request; for a
start-up replay it stops the replay on the header (R20, R71, R72, R85). That the record of a failed opening shows
the level selected when the command was taken, and that retarget pending is cleared when the fault request takes it over,
are the model's inferences (logs 16 and 36). While a restart is pending neither the
record nor DONE and REJECT are written (R25, R89), which is how the model reads R94 and R175 (log 33). -/
def Obligations.OpeningHeaderBeginsTheWalk : Prop :=
  ∀ (s : State) (w : HeaderWrite),
    let pending := s.ckc.restartPending = true
    (SecondHalf .undoOpening w s →
      exec (.headerHalfWriteEnd .done) s = .next (walkHead
        { s with
          mbp := answered s.mbp
          jmg := headerDone w s.jmg
          rpe := { s.rpe with haltReason := .none, haltItem := .none, openingOwed := false } }))
    ∧ (EitherHalf .undoOpening w s → s.rpe.source = .start →
      exec (.headerHalfWriteEnd .error) s = .next (rejudge
        { s with
          mbp := answered s.mbp
          jmg := headerLost w s.jmg
          ckc := { s.ckc with state := .halted }
          rpe :=
            { s.rpe with
              step := .halted
              haltReason := .memory
              haltItem := .header
              record := none
              skipOwed := false
              openingOwed := true }
          acu := { s.acu with flags := s.acu.flags ||| 0x400 ||| 0x10 } }))
    ∧ (∀ (c : InService) (f : Frame), EitherHalf .undoOpening w s → s.rpe.source ≠ .start →
      s.ckc.startUp = false → s.ckc.inService = some c → s.ckc.frames[c.target]? = some f →
      exec (.headerHalfWriteEnd .error) s = .next (rejudge
        { s with
          mbp := answered s.mbp
          jmg := headerLost w s.jmg
          ckc :=
            { s.ckc with
              state := .ready
              inService := none
              faultRequest := s.ckc.faultRequest || s.rpe.retargetPending
              last :=
                if pending then s.ckc.last
                else
                  ⟨s.rpe.source, QueueKind.cmdKind c.kind, f.tag,
                    match c.kind with | .undoTo id => id | _ => f.id, .headerFailed⟩ }
          rpe :=
            { s.rpe with
              step := .idle
              target := 0
              cursor := 0
              serialBound := 0
              record := none
              retargetPending := false
              skipOwed := false
              openingOwed := false }
          acu := { s.acu with flags := s.acu.flags ||| 0x400 ||| (if pending then 0 else 0x2008) } }))

/-- The replay restores a slot that passes the four tests of R52 and whose serial is below the bound: its
pre-image is presented to its cell, which a pending restart keeps back (R94). A slot that fails a test, and a read
that fails, stop the replay on the slot with CORRUPT_SLOT or MEMORY: HALT is set and CKC enters HALTED (R74, R85). -/
def Obligations.ReplayRestoresValidSlotsOnly : Prop :=
  ∀ (s : State) (cells : Beats), Awaits .replaySlotRead s →
    let bs := bytesOfCells ((Vector.toList cells).take 4)
    let r := recordOfBytes bs
    let ok := slotValidates (journalBase s.straps) bs = true ∧ r.serial < s.rpe.serialBound
    let stopped := fun (why : HaltReason) (flags : BitVec 14) =>
      rejudge
        { s with
          mbp := answered s.mbp
          ckc := { s.ckc with state := .halted }
          rpe :=
            { s.rpe with
              step := .halted
              haltReason := why
              haltItem := .slot
              record := none
              skipOwed := false }
          acu := { s.acu with flags := s.acu.flags ||| flags } }
    (ok →
      exec (.replaySlotReadEnd (.done cells)) s = .next
        { s with
          mbp :=
            { answered s.mbp with
              waitEngine :=
                if s.ckc.restartPending = true then s.mbp.waitEngine
                else some ⟨.engine, .restore, r.cell, .write, .one, 0xF, [r.preImage]⟩ }
          rpe := { s.rpe with record := some r, step := .restore } })
    ∧ (¬ ok → exec (.replaySlotReadEnd (.done cells)) s = .next (stopped .corruptSlot 0x10))
    ∧ exec (.replaySlotReadEnd .error) s = .next (stopped .memory 0x410)

/-- A completed restore lowers top by 1, makes the record's serial the bound, counts it in REPLAYED and returns to the
walk head. With retarget pending that asks for the retarget header, REPLAYING with target 0 (R83). Otherwise the walk
reads the slot below, or, when depth is t + 1 and the top frame starts at the new top, asks for the closing header,
CLEAN at target 0 and OPEN above it. A failed restore stops the replay on the slot (R73, R74, R77, R85). -/
def Obligations.RestoreLowersTopAndWalksOn : Prop :=
  ∀ (s : State) (r : Record), Awaits .restore s → s.rpe.record = some r →
    let top := s.jmg.top - 1
    let fs := s.ckc.frames
    let t := s.rpe.target
    let u :=
      { s with
        jmg := { s.jmg with top := top }
        rpe := { s.rpe with serialBound := r.serial, record := none }
        mbp := answered s.mbp
        acu := { s.acu with counters := { s.acu.counters with replayed := satAdd s.acu.counters.replayed 1 } } }
    exec (.restoreEnd .done) s = .next (walkHead u)
    ∧ (s.rpe.retargetPending = true →
      exec (.restoreEnd .done) s = .next
        (requestHeader .retarget ⟨.replaying, fs.length, 0, brokenFlags fs, top, levelEntries fs⟩
          { u with rpe := { u.rpe with step := .retarget } }))
    ∧ (∀ f, s.rpe.retargetPending = false → fs.getLast? = some f → f.start ≠ top → s.ckc.restartPending = false →
      exec (.restoreEnd .done) s = .next
        { u with
          rpe := { u.rpe with cursor := top - 1, step := .read }
          mbp :=
            { u.mbp with
              waitEngine :=
                some ⟨.engine, .replaySlotRead, slotAddr s.straps (top - 1), .read, .four, 0xF, []⟩ } })
    ∧ (∀ f, s.rpe.retargetPending = false → fs.getLast? = some f → f.start = top → fs.length = t + 1 →
      exec (.restoreEnd .done) s = .next
        (requestHeader .closing
          (if t = 0 then ⟨.clean, 0, 0, 0, 0, []⟩
            else ⟨.opened, t, 0, brokenFlags (fs.take t), top, levelEntries (fs.take t)⟩)
          { u with rpe := { u.rpe with step := .closing } }))
    ∧ exec (.restoreEnd .error) s = .next (rejudge
        { s with
          mbp := answered s.mbp
          ckc := { s.ckc with state := .halted }
          rpe :=
            { s.rpe with
              step := .halted
              haltReason := .memory
              haltItem := .slot
              record := none
              skipOwed := false }
          acu := { s.acu with flags := s.acu.flags ||| 0x410 } })

/-- The walk head with retarget pending asks for the retarget header before anything is popped or read: REPLAYING with
the present stack and top and target 0, in step RETARGET. Otherwise it pops, from the top and above level t + 1,
exactly the levels whose start equals top: their frames leave the stack, the capture set keeps only the entries of the
levels that stay, a broken one sets partial, and nothing else changes. Then, where depth is t + 1 and the top frame's
start equals top, it asks for the closing header in step CLOSING; and otherwise it presents the read of the slot at
top − 1, in step READ, which a pending restart keeps back (R73, R75, R77, R83, R94). That the levels are popped and the
step moves on under a pending restart too is the model's inference (log 9). -/
def Obligations.WalkPopsTheEmptyLevels : Prop :=
  ∀ s : State,
    let fs := s.ckc.frames
    let n := fs.length
    let t := s.rpe.target
    let u := popEmptyLevels n s
    (s.rpe.retargetPending = true →
      walkHead s =
        requestHeader .retarget ⟨.replaying, n, 0, brokenFlags fs, s.jmg.top, levelEntries fs⟩
          { s with rpe := { s.rpe with step := .retarget } })
    ∧ (s.rpe.retargetPending = false → u.ckc.frames.length = t + 1 →
        (u.ckc.frames.getLast?).map Frame.start = some s.jmg.top →
      walkHead s =
        requestHeader .closing
          (if t = 0 then ⟨.clean, 0, 0, 0, 0, []⟩
            else ⟨.opened, t, 0, brokenFlags (fs.take t), s.jmg.top, levelEntries (fs.take t)⟩)
          { u with rpe := { u.rpe with step := .closing } })
    ∧ (s.rpe.retargetPending = false →
        u.ckc.frames.length ≠ t + 1 ∨ (u.ckc.frames.getLast?).map Frame.start ≠ some s.jmg.top →
      walkHead s =
        { u with
          rpe := { u.rpe with cursor := s.jmg.top - 1, step := .read }
          mbp :=
            { s.mbp with
              waitEngine :=
                if s.ckc.restartPending = true then s.mbp.waitEngine
                else some ⟨.engine, .replaySlotRead, slotAddr s.straps (s.jmg.top - 1), .read, .four, 0xF, []⟩ } })
    ∧ ∃ k, k ≤ n
      ∧ popEmptyLevels n s =
        { s with
          ckc := { s.ckc with frames := fs.take (n - k) }
          cpe :=
            { s.cpe with
              captureSet := s.cpe.captureSet.filter fun e => decide (k = 0 ∨ e.level ≤ n - k) }
          rpe := { s.rpe with partialUndo := s.rpe.partialUndo || (fs.drop (n - k)).any Frame.broken } }
      ∧ (∀ f ∈ fs.drop (n - k), f.start = s.jmg.top)
      ∧ (k = 0 ∨ s.rpe.target + 1 ≤ n - k)
      ∧ (n - k ≤ s.rpe.target + 1 ∨ ∀ f, (fs.take (n - k)).getLast? = some f → f.start ≠ s.jmg.top)

/-- The closing header ends an undo whether it completes or fails, failure setting HEADER_STALE: level t + 1 is
popped, DONE is set, the outcome is DONE_PARTIAL when partial is set or the level is broken and DONE otherwise, RPE
is idle and CKC is in READY. With retarget pending the level is popped all the same, and the undo goes on with the
retarget header for the levels that stay. For a command the record shows its kind; a start-up replay shows UNDO_ALL for target 0
and UNDO_TO otherwise, and its start-up ends (R65, R72, R73, R75, R77, R78, R83, R105). While a restart is pending neither the record nor DONE is
written (R25, R89), which is how the model reads R94 and R175 (log 33). The frame id of a start-up replay's
record and the partial flag kept afterwards are the model's inferences (logs 17 and 31). -/
def Obligations.ClosingHeaderEndsTheUndo : Prop :=
  ∀ (s : State) (w : HeaderWrite) (f : Frame) (e : WriteEnding),
    s.ckc.frames.getLast? = some f → EitherHalf .closing w s → (e = .done → w.second = true) →
    let failed := e = .error
    let pending := s.ckc.restartPending = true
    let n := s.ckc.frames.length
    let rest := s.ckc.frames.dropLast
    let jmg := if failed then { headerLost w s.jmg with headerStale := true } else headerDone w s.jmg
    let cpe := { s.cpe with captureSet := s.cpe.captureSet.filter fun x => decide (x.level < n) }
    let partialNow := s.rpe.partialUndo || f.broken
    let raised := s.acu.flags ||| (if failed then 0x400 else 0)
      ||| (if failed ∧ s.jmg.headerStale = false then 0x800 else 0)
    let ended := fun (kind : CmdKind) (id : Word16) (frames : List Frame) (flags : BitVec 14) =>
      { s with
        mbp := answered s.mbp
        jmg := jmg
        cpe := cpe
        ckc :=
          { s.ckc with
            state := .ready
            startUp := false
            inService := none
            frames := frames
            last :=
              if pending then s.ckc.last
              else
                ⟨s.rpe.source, kind, f.tag, id,
                  if s.rpe.partialUndo = true ∨ f.broken = true then .donePartial else .done⟩ }
        rpe :=
          { s.rpe with
            step := .idle
            target := 0
            cursor := 0
            serialBound := 0
            record := none
            partialUndo := partialNow
            skipOwed := false
            openingOwed := false }
        acu := { s.acu with flags := raised ||| (if pending then 0 else 0x8) ||| flags } }
    (∀ c, s.rpe.retargetPending = false → s.ckc.inService = some c → s.ckc.startUp = false →
      exec (.headerHalfWriteEnd e) s = .next (rejudge
        (ended (QueueKind.cmdKind c.kind) (match c.kind with | .undoTo id => id | _ => f.id)
          rest 0)))
    ∧ (s.rpe.retargetPending = false → s.ckc.inService = none → s.ckc.startUp = true →
      exec (.headerHalfWriteEnd e) s = .next (rejudge
        (ended (if s.rpe.target = 0 then .undoAll else .undoTo) f.id
          (rest.map fun g => { g with age := 0, warned := false, expired := false }) 0x1000)))
    ∧ (s.rpe.retargetPending = true →
      exec (.headerHalfWriteEnd e) s = .next
        (requestHeader .retarget ⟨.replaying, n - 1, 0, brokenFlags rest, s.jmg.top, levelEntries rest⟩
          { s with
            mbp := answered s.mbp
            jmg := jmg
            cpe := cpe
            ckc := { s.ckc with frames := rest }
            rpe := { s.rpe with step := .retarget, partialUndo := partialNow }
            acu := { s.acu with flags := raised } }))

/-- A retarget header that completes clears retarget pending and the walk goes on, first giving up the slot that a
SKIP waits for; one that fails sets HEADER_STALE and stops the replay on the header. ABANDON's header that completes
closes every level: the stack and the capture set are empty, top is 0, DONE is set with outcome ABANDONED for the lowest
frame closed, and CKC is in READY; for a start-up replay its record shows UNDO_ALL for target 0 and UNDO_TO
otherwise, and start-up ends; one that fails sets HEADER_STALE and leaves the part in HALTED with the stack as it
was. A SYNC write that completes clears HEADER_STALE, and retarget pending when it described target 0; one that fails
leaves HEADER_STALE as it was (R20, R65, R66, R78, R83 to R85, R87, R88, R105).
That the kind in the record of a start-up replay follows the target as it stands at the end is the model's inference
(log 17). While a restart is pending an ABANDON that completes writes neither the record nor DONE and REJECT (R25, R89), which is
how the model reads R94 and R175 (log 33). -/
def Obligations.RetargetAbandonAndSyncHeadersEnd : Prop :=
  (∀ (s : State) (w : HeaderWrite),
     (SecondHalf .retarget w s → s.rpe.skipOwed = false →
       exec (.headerHalfWriteEnd .done) s = .next (walkHead
         { s with
           mbp := answered s.mbp
           jmg := headerDone w s.jmg
           rpe := { s.rpe with retargetPending := false } }))
     ∧ (SecondHalf .retarget w s → s.rpe.skipOwed = true →
       exec (.headerHalfWriteEnd .done) s = .next (walkHead
         { s with
           mbp := answered s.mbp
           jmg := { headerDone w s.jmg with top := s.jmg.top - 1 }
           rpe := { s.rpe with retargetPending := false, partialUndo := true, skipOwed := false } }))
     ∧ (EitherHalf .retarget w s →
       exec (.headerHalfWriteEnd .error) s = .next (rejudge
         { s with
           mbp := answered s.mbp
           jmg := { headerLost w s.jmg with headerStale := true }
           ckc := { s.ckc with state := .halted }
           rpe :=
             { s.rpe with
               step := .halted
               haltReason := .memory
               haltItem := .header
               record := none
               skipOwed := false }
           acu := { s.acu with flags := s.acu.flags ||| (if s.jmg.headerStale = true then 0x410 else 0xC10) } })))
  ∧ (∀ (s : State) (w : HeaderWrite),
       (∀ f : Frame, SecondHalf .abandon w s → s.ckc.frames.head? = some f →
         let pending := s.ckc.restartPending = true
         let closed := fun (kind : CmdKind) (id : Word16) (flags : BitVec 14) =>
           { s with
             mbp := answered s.mbp
             jmg := { headerDone w s.jmg with top := 0 }
             cpe := { s.cpe with captureSet := [] }
             ckc :=
               { s.ckc with
                 state := .ready
                 startUp := false
                 inService := none
                 frames := []
                 last := if pending then s.ckc.last else ⟨s.rpe.source, kind, f.tag, id, .abandoned⟩ }
             rpe :=
               { s.rpe with
                 step := .idle
                 target := 0
                 cursor := 0
                 serialBound := 0
                 record := none
                 retargetPending := false
                 partialUndo := false
                 skipOwed := false
                 openingOwed := false }
             acu := { s.acu with flags := s.acu.flags ||| (if pending then 0 else 0x2008) ||| flags } }
         (∀ c, s.ckc.inService = some c → s.ckc.startUp = false →
           exec (.headerHalfWriteEnd .done) s = .next (rejudge
             (closed (QueueKind.cmdKind c.kind) (match c.kind with | .undoTo id => id | _ => f.id) 0)))
         ∧ (s.ckc.inService = none → s.ckc.startUp = true →
           exec (.headerHalfWriteEnd .done) s = .next (rejudge
             (closed (if s.rpe.target = 0 then .undoAll else .undoTo) f.id 0x1000))))
       ∧ (EitherHalf .abandon w s →
         exec (.headerHalfWriteEnd .error) s = .next
           { s with
             mbp := answered s.mbp
             jmg := { headerLost w s.jmg with headerStale := true }
             rpe := { s.rpe with step := .halted }
             acu := { s.acu with flags := s.acu.flags ||| (if s.jmg.headerStale = true then 0x400 else 0xC00) } }))
  ∧ (∀ (s : State) (w : HeaderWrite),
       (SecondHalf .sync w s →
         exec (.headerHalfWriteEnd .done) s = .next
           { s with
             mbp := answered s.mbp
             jmg := headerDone w s.jmg
             rpe :=
               { s.rpe with
                 retargetPending :=
                   if w.contents.fields.state = .replaying ∧ w.contents.fields.target = 0 then false
                   else s.rpe.retargetPending } })
       ∧ (EitherHalf .sync w s →
         exec (.headerHalfWriteEnd .error) s = .next
           { s with
             mbp := answered s.mbp
             jmg := headerLost w s.jmg
             acu := { s.acu with flags := s.acu.flags ||| 0x400 } }))

/-! ## Wipe and start-up -/

/-- A wipe zeroes the slots two at a time from slot 0; after the last pair the next serial becomes 0 and a CLEAN
header is asked for. A write that fails is presented again with the cursor unmoved, and so is a failed header.
The opening header leads to the first pair, and the closing header ends the wipe in READY, and the start-up if
one is in progress, with START set and the ages at 0. That a header whose second half failed is presented again from its
first half is the model's inference (log 35). While a restart is pending the cursor moves all the same and no
write is presented (R68, R69, R94, R105). -/
def Obligations.WipeZeroesEverySlotPair : Prop :=
  (∀ (s : State), s.ckc.restartPending = true → Awaits .wipeSlots s →
    let done :=
      { s with
        jmg := { s.jmg with wipeCursor := s.jmg.wipeCursor + 2 }
        mbp := answered s.mbp }
    (s.jmg.wipeCursor + 2 < capacity s.straps → exec (.wipeSlotWriteEnd .done) s = .next done)
    ∧ (capacity s.straps ≤ s.jmg.wipeCursor + 2 →
      exec (.wipeSlotWriteEnd .done) s = .next { done with jmg := { done.jmg with nextSerial := 0 } })
    ∧ exec (.wipeSlotWriteEnd .error) s = .next
      { s with
        mbp := answered s.mbp
        acu := { s.acu with flags := s.acu.flags ||| 0x400 } })
  ∧ ∀ (s : State), s.ckc.restartPending = false →
    let c := s.jmg.wipeCursor
    let zero := fun (at_ : Nat) =>
      some (⟨.engine, .wipeSlots, slotAddr s.straps at_, .write, .eight, 0xF, List.replicate 8 ⟨0, 0, 0, 0⟩⟩
        : MemRequest)
    (Awaits .wipeSlots s → c + 2 < capacity s.straps →
      exec (.wipeSlotWriteEnd .done) s = .next
        { s with
          jmg := { s.jmg with wipeCursor := c + 2 }
          mbp := { answered s.mbp with waitEngine := zero (c + 2) } })
    ∧ (Awaits .wipeSlots s → capacity s.straps ≤ c + 2 →
      exec (.wipeSlotWriteEnd .done) s = .next
        (requestHeader .wipeClosing ⟨.clean, 0, 0, 0, 0, []⟩
          { s with
            jmg := { s.jmg with wipeCursor := c + 2, nextSerial := 0 }
            mbp := answered s.mbp }))
    ∧ (Awaits .wipeSlots s →
      exec (.wipeSlotWriteEnd .error) s = .next
        { s with
          mbp := { answered s.mbp with waitEngine := zero c }
          acu := { s.acu with flags := s.acu.flags ||| 0x400 } })
    ∧ (∀ w, SecondHalf .wipeOpening w s → c < capacity s.straps →
      exec (.headerHalfWriteEnd .done) s = .next
        { s with
          jmg := headerDone w s.jmg
          mbp := { answered s.mbp with waitEngine := zero c } })
    ∧ (∀ w, SecondHalf .wipeClosing w s → s.ckc.startUp = false →
      exec (.headerHalfWriteEnd .done) s = .next (rejudge
        { s with
          mbp := answered s.mbp
          jmg := headerDone w s.jmg
          ckc := { s.ckc with state := .ready } }))
    ∧ (∀ w, SecondHalf .wipeClosing w s → s.ckc.startUp = true →
      exec (.headerHalfWriteEnd .done) s = .next (rejudge
        { s with
          mbp := answered s.mbp
          jmg := headerDone w s.jmg
          ckc :=
            { s.ckc with
              state := .ready
              startUp := false
              frames := s.ckc.frames.map fun g => { g with age := 0, warned := false, expired := false } }
          acu := { s.acu with flags := s.acu.flags ||| 0x1000 } }))
    ∧ (∀ w, EitherHalf .wipeOpening w s →
      exec (.headerHalfWriteEnd .error) s = .next
        (requestHeader .wipeOpening ⟨.wiping, 0, 0, 0, 0, []⟩
          { s with
            mbp := answered s.mbp
            jmg := headerLost w s.jmg
            acu := { s.acu with flags := s.acu.flags ||| 0x400 } }))
    ∧ (∀ w, EitherHalf .wipeClosing w s →
      exec (.headerHalfWriteEnd .error) s = .next
        (requestHeader .wipeClosing ⟨.clean, 0, 0, 0, 0, []⟩
          { s with
            mbp := answered s.mbp
            jmg := headerLost w s.jmg
            acu := { s.acu with flags := s.acu.flags ||| 0x400 } }))

/-- SCAN reads copy A and then copy B in two halves each, reading a half again when the read fails. After the
fourth it selects the valid copy of the later generation: B when its generation is greater, by 1 to 2^31 − 1 modulo 2^32,
and A otherwise. A CLEAN header leads to READY with its next serial; a REPLAYING one, and an OPEN one but under DISCARD,
to the rebuilt stack and the read of the slot at its top, where that is below capacity, and where it is capacity to the
end of the scan at once, with no slot read and the live top at capacity; an OPEN one under DISCARD to a
wipe from its opening header, and a WIPING one to a wipe from slot 0; with no valid copy the part enters UNFORMATTED, or
a wipe under DISCARD. A stored next serial of `$FFFF_FFFF_FFFF` is taken back as the spent value, and any other as itself
(R54, R63, R95 to R99, R100 to R103, R105). A copy that a failed write has reached is passed over whatever its bytes are
(R61); how long that lasts is the model's inference (log 34). -/
def Obligations.ScanReadsAndSelectsTheHeader : Prop :=
  (∀ n : Nat,
     takeSerial n = (if n = 0xFFFFFFFFFFFF then 2 ^ 48 else n)
     ∧ (n ≤ 2 ^ 48 → takeSerial (storeSerial n) = if n < 0xFFFFFFFFFFFF then n else 2 ^ 48))
  ∧ (∀ (s : State) (k : Nat) (bytes : List Byte) (cells : Beats), Awaits .scanHeaderRead s →
     s.jmg.scan = .headers k bytes → s.ckc.restartPending = false →
     let half := fun (k : Nat) =>
       some (⟨.engine, .scanHeaderRead, BitVec.ofNat 24 (journalBase s.straps + 32 * k), .read, .eight, 0xF, []⟩
         : MemRequest)
     let all := bytes ++ bytesOfCells (Vector.toList cells)
     let copyA := if s.jmg.failedCopies.a = true then none else validHeader (capacity s.straps) (all.take 64)
     let copyB := if s.jmg.failedCopies.b = true then none else validHeader (capacity s.straps) (all.drop 64)
     let started := fun (st : CtrlState) (j : Jmg) =>
       rejudge
         { s with
           mbp := answered s.mbp
           jmg := j
           ckc :=
             { s.ckc with
               state := st
               startUp := false
               frames := s.ckc.frames.map fun g => { g with age := 0, warned := false, expired := false } }
           acu := { s.acu with flags := s.acu.flags ||| 0x1000 } }
     (k < 3 →
       exec (.scanHeaderReadEnd (.done cells)) s = .next
         { s with
           jmg := { s.jmg with scan := .headers (k + 1) all }
           mbp := { answered s.mbp with waitEngine := half (k + 1) } })
     ∧ (k < 4 →
       exec (.scanHeaderReadEnd .error) s = .next
         { s with
           mbp := { answered s.mbp with waitEngine := half k }
           acu := { s.acu with flags := s.acu.flags ||| 0x400 } })
     ∧ (k = 3 → s.ckc.startUp = true → ∀ (c : Copy) (h : Header),
       selectCopy copyA copyB = some (c, h) →
       h.fields.state = .clean →
       exec (.scanHeaderReadEnd (.done cells)) s = .next (started .ready
         { s.jmg with
           current := some c
           generation := h.generation
           nextSerial := takeSerial h.serial
           scan := .idle }))
     ∧ (k = 3 → s.ckc.startUp = true → selectCopy copyA copyB = none →
       policy s.straps ≠ .discard →
       exec (.scanHeaderReadEnd (.done cells)) s = .next (started .unformatted
         { s.jmg with current := none, generation := 0, nextSerial := 0, scan := .idle }))
     ∧ (k = 3 → s.ckc.startUp = true → selectCopy copyA copyB = none →
       policy s.straps = .discard →
       exec (.scanHeaderReadEnd (.done cells)) s = .next
         (requestHeader .wipeOpening ⟨.wiping, 0, 0, 0, 0, []⟩ (rejudge
           { s with
             mbp := answered s.mbp
             jmg :=
               { s.jmg with
                 current := none
                 generation := 0
                 nextSerial := 0
                 top := 0
                 wipeCursor := 0
                 scan := .idle }
             ckc := { s.ckc with state := .wipe } })))
     ∧ (k = 3 → ∀ (c : Copy) (h : Header),
       selectCopy copyA copyB = some (c, h) →
       let wiping := rejudge
         { s with
           mbp := answered s.mbp
           jmg :=
             { s.jmg with
               current := some c
               generation := h.generation
               nextSerial := takeSerial h.serial
               top := 0
               wipeCursor := 0
               scan := .idle }
           ckc := { s.ckc with state := .wipe } }
       let rebuilt := rebuildFrames h
         { s with
           mbp :=
             { answered s.mbp with
               waitEngine :=
                 some ⟨.engine, .scanSlotRead, slotAddr s.straps h.fields.top, .read, .four, 0xF, []⟩ }
           jmg :=
             { s.jmg with
               current := some c
               generation := h.generation
               scan := .slots h.fields.top none h } }
       (h.fields.state = .replaying ∨ (h.fields.state = .opened ∧ policy s.straps ≠ .discard) →
         h.fields.top < capacity s.straps →
         exec (.scanHeaderReadEnd (.done cells)) s = .next rebuilt)
       ∧ (h.fields.state = .replaying ∨ (h.fields.state = .opened ∧ policy s.straps ≠ .discard) →
         capacity s.straps ≤ h.fields.top →
           s.ckc.startUp = true →
         let full := rebuildFrames h
           { s with
             mbp := answered s.mbp
             jmg :=
               { s.jmg with
                 current := some c
                 generation := h.generation
                 top := h.fields.top
                 nextSerial := takeSerial h.serial
                 scan := .idle } }
         let fs := full.ckc.frames
         let undoing := fun (st : RpeStep) =>
           { s.rpe with
             step := st
             target := h.fields.target
             serialBound := takeSerial h.serial
             source := .start
             retargetPending := false
             partialUndo := false
             record := none
             haltReason := .none
             haltItem := .none
             skipOwed := false
             openingOwed := false }
         let recovering := rejudge { full with ckc := { full.ckc with state := .recover } }
         exec (.scanHeaderReadEnd (.done cells)) s = .next
           (if h.fields.state = .replaying then walkHead { recovering with rpe := undoing s.rpe.step }
            else if policy s.straps = .hold then
              rejudge
                { full with
                  ckc :=
                    { full.ckc with
                      state := .await
                      startUp := false
                      frames := fs.map fun g => { g with age := 0, warned := false, expired := false } }
                  acu := { s.acu with flags := s.acu.flags ||| 0x1000 } }
            else
              requestHeader .undoOpening
                ⟨.replaying, fs.length, h.fields.target, brokenFlags fs, h.fields.top, levelEntries fs⟩
                { recovering with rpe := undoing .opening }))
       ∧ (h.fields.state = .opened → policy s.straps = .discard →
         exec (.scanHeaderReadEnd (.done cells)) s = .next
           (requestHeader .wipeOpening ⟨.wiping, 0, 0, 0, 0, []⟩ wiping))
       ∧ (h.fields.state = .wiping →
         exec (.scanHeaderReadEnd (.done cells)) s = .next
           { wiping with
             mbp :=
               { wiping.mbp with
                 waitEngine :=
                   some ⟨.engine, .wipeSlots, slotAddr s.straps 0, .write, .eight, 0xF,
                     List.replicate 8 ⟨0, 0, 0, 0⟩⟩ } })))
  ∧ (∀ (a b : Header),
       let d := (b.generation.toNat + (2 ^ 32 - a.generation.toNat)) % 2 ^ 32
       (1 ≤ d → d ≤ 2 ^ 31 - 1 → selectCopy (some a) (some b) = some (.b, b))
       ∧ (d = 0 ∨ 2 ^ 31 ≤ d → selectCopy (some a) (some b) = some (.a, a))
       ∧ selectCopy (some a) none = some (.a, a) ∧ selectCopy none (some b) = some (.b, b)
       ∧ selectCopy none none = none)

/-- The slot scan accepts a slot that validates, whose serial is not below the header's stored next serial and is
above the serial of the slot before. It then reads the next slot while one is left; a failed read is presented again. At
a slot it does not accept, or past the last slot, top is the index reached and the next serial the greater of the stored
one and one more than the last accepted: under HOLD an OPEN header leads to AWAIT, and otherwise to RECOVER with an undo of
source START to the header's target, which asks for its opening header, while a REPLAYING header begins the walk at once. The stack it works on is rebuilt from the header: one frame for each
level entry, with its start and tag, origin RECOVERED, its broken bit, and consecutive frame ids (R5, R72, R97 to R100, R102). -/
def Obligations.SlotScanRebuildsStackAndTop : Prop :=
  (∀ (s : State) (i : Nat) (last : Option Nat) (h : Header) (cells : Beats), Awaits .scanSlotRead s →
     s.jmg.scan = .slots i last h → s.ckc.restartPending = false →
     let bs := bytesOfCells ((Vector.toList cells).take 4)
     let n := (recordOfBytes bs).serial
     let accepted := slotValidates (journalBase s.straps) bs = true ∧ h.serial ≤ n ∧ ∀ m, last = some m → m < n
     let slot := fun (i : Nat) =>
       some (⟨.engine, .scanSlotRead, slotAddr s.straps i, .read, .four, 0xF, []⟩ : MemRequest)
     let entered := fun (c : Ckc) (a : Acu) (top serial : Nat) => rejudge
       { s with
         mbp := answered s.mbp
         jmg := { s.jmg with top := top, nextSerial := serial, scan := .idle }
         ckc := c
         acu := a }
     let undoing := fun (st : RpeStep) (serial : Nat) =>
       { s.rpe with
         step := st
         target := h.fields.target
         serialBound := serial
         source := .start
         retargetPending := false
         partialUndo := false
         record := none
         haltReason := .none
         haltItem := .none
         skipOwed := false
         openingOwed := false }
     let recover := { s.ckc with state := .recover }
     let await :=
       { s.ckc with
         state := .await
         startUp := false
         frames := s.ckc.frames.map fun g => { g with age := 0, warned := false, expired := false } }
     let ended := fun (top serial : Nat) =>
       if h.fields.state = .replaying then
         walkHead { entered recover s.acu top serial with rpe := undoing s.rpe.step serial }
       else if policy s.straps = .hold then
         entered await { s.acu with flags := s.acu.flags ||| 0x1000 } top serial
       else
         requestHeader .undoOpening
           ⟨.replaying, s.ckc.frames.length, h.fields.target, brokenFlags s.ckc.frames, top, levelEntries s.ckc.frames⟩
           { entered recover s.acu top serial with rpe := undoing .opening serial }
     (accepted → i + 1 < capacity s.straps →
       exec (.scanSlotReadEnd (.done cells)) s = .next
         { s with
           jmg := { s.jmg with scan := .slots (i + 1) (some n) h }
           mbp := { answered s.mbp with waitEngine := slot (i + 1) } })
     ∧ exec (.scanSlotReadEnd .error) s = .next
         { s with
           mbp := { answered s.mbp with waitEngine := slot i }
           acu := { s.acu with flags := s.acu.flags ||| 0x400 } }
     ∧ (h.fields.state = .opened ∨ h.fields.state = .replaying → s.ckc.startUp = true →
       (¬ accepted →
         exec (.scanSlotReadEnd (.done cells)) s = .next
           (ended i (match last with | none => takeSerial h.serial | some m => max (takeSerial h.serial) (m + 1))))
       ∧ (accepted → capacity s.straps ≤ i + 1 →
         exec (.scanSlotReadEnd (.done cells)) s = .next (ended (i + 1) (max (takeSerial h.serial) (n + 1))))))
  ∧ (∀ (h : Header) (s : State), h.fields.entries.length ≤ 8 →
       let t := rebuildFrames h s
       let n := h.fields.entries.length
       Touches [.ckc] s t
       ∧ t.ckc.frames.length = n
       ∧ t.ckc.nextFrameId = s.ckc.nextFrameId + BitVec.ofNat 16 n
       ∧ (∀ i (e : LevelEntry), h.fields.entries[i]? = some e →
           t.ckc.frames[i]? = some
             (⟨i + 1, e.start, e.tag, s.ckc.nextFrameId + BitVec.ofNat 16 i, .recovered, 0, false, false,
               h.fields.broken.getLsbD i⟩ : Frame))
       ∧ t.ckc.queue = s.ckc.queue ∧ t.ckc.state = s.ckc.state ∧ t.ckc.last = s.ckc.last)

/-! ## Formats -/

/-- A header copy is valid, and describes a header, exactly when its bytes pass the seven tests: the marker; the check
over its first 62 bytes; a state of the four; a depth of 0 to 8, 0 for CLEAN and WIPING and 1 or more otherwise; a
target below the depth for REPLAYING and 0 otherwise; a top of at most capacity, 0 for CLEAN and WIPING; and starts
that begin at 0, never decrease and never pass top. The header is then what the bytes hold at the offsets of the
layout. A copy that is written reads back as it was: its 64 bytes are a valid header of the same contents (R59, R60,
R199). -/
def Obligations.HeaderReadsBackAsWritten : Prop :=
  (∀ (cap : Nat) (bs : List Byte) (h : Header),
    let num := fun (i n : Nat) => ((List.range n).map fun k => (bs.getD (i + k) 0).toNat * 256 ^ k).sum
    let f := h.fields
    let still := f.state = .clean ∨ f.state = .wiping
    validHeader cap bs = some h ↔
      bs.getD 0 0 = 0xC7 ∧ bs.getD 1 0 = 0x4D ∧ num 62 2 = (crc16 (bs.take 62)).toNat
      ∧ (f.state, num 6 1) ∈ [(HeaderState.clean, 0), (.opened, 1), (.replaying, 2), (.wiping, 3)]
      ∧ f.depth = num 7 1 ∧ f.depth ≤ 8 ∧ (f.depth = 0 ↔ still)
      ∧ f.target = num 8 1 ∧ (if f.state = .replaying then f.target < f.depth else f.target = 0)
      ∧ f.top = num 10 2 ∧ f.top ≤ cap ∧ (still → f.top = 0)
      ∧ f.entries =
        (List.range f.depth).map (fun l => ⟨num (18 + 4 * l) 2, BitVec.ofNat 16 (num (20 + 4 * l) 2)⟩)
      ∧ (∀ e, f.entries[0]? = some e → e.start = 0) ∧ (∀ e ∈ f.entries, e.start ≤ f.top)
      ∧ (∀ l e e', f.entries[l]? = some e → f.entries[l + 1]? = some e' → e.start ≤ e'.start)
      ∧ h.generation = BitVec.ofNat 32 (num 2 4) ∧ f.broken = bs.getD 9 0 ∧ h.serial = num 12 6)
  ∧ ∀ (cap : Nat) (h : Header), headerLegal cap h = true → cap ≤ 32760 → h.fields.entries.length = h.fields.depth →
    h.serial < 2 ^ 48 →
    (headerBytes h).length = 64 ∧ validHeader cap (headerBytes h) = some h

/-- A slot validates exactly when its bytes pass the four tests: the marker, the check over its other 14 bytes, a cell
address with its low two bits zero, and one below the journal base. The record it holds has the cell address,
pre-image and serial at the offsets of the layout. The CRC-16 of the nine ASCII digits is `$29B1`. A record that is
written reads back as it was: its 16 bytes pass the four tests of a slot and hold the same cell, pre-image and serial
(R51, R52, R198). -/
def Obligations.RecordReadsBackAsWritten : Prop :=
  (∀ (base : Nat) (bs : List Byte),
    let num := fun (i n : Nat) => ((List.range n).map fun k => (bs.getD (i + k) 0).toNat * 256 ^ k).sum
    (slotValidates base bs = true ↔
      bs.getD 0 0 = 0x5A ∧ num 14 2 = (crc16 (bs.take 14)).toNat ∧ num 1 3 % 4 = 0 ∧ num 1 3 < base)
    ∧ recordOfBytes bs =
      ⟨BitVec.ofNat 24 (num 1 3), ⟨bs.getD 4 0, bs.getD 5 0, bs.getD 6 0, bs.getD 7 0⟩, num 8 6⟩)
  ∧ crc16 [0x31, 0x32, 0x33, 0x34, 0x35, 0x36, 0x37, 0x38, 0x39] = 0x29B1
  ∧ ∀ (base : Nat) (r : Record), r.cell.toNat % 4 = 0 → r.cell.toNat < base → r.serial < 2 ^ 48 →
    (recordBytes r).length = 16 ∧ slotValidates base (recordBytes r) = true
    ∧ recordOfBytes (recordBytes r) = r
    ∧ bytesOfCells (cellsOfBytes (recordBytes r)) = recordBytes r

/-! ## Strobes, FAULT and time -/

/-- A selected edge of a strobe line joins the command queue at its tail as a STROBE arrival, or is dropped with
LOST and STROBES_LOST when the queue holds 4; a MARK edge carries the strobe tag, which increments either way.
In DORMANT it joins the wake list, or is dropped in the same way when that holds 8, and the wake starts. An edge
that is not selected does nothing (R129 to R131, R133, R134, R146). -/
def Obligations.StrobeEdgesArriveOrWake : Prop :=
  ∀ (s : State) (line : StrobeLine) (edge : Edge), s.resetHeld = false →
    let selected := match line with
      | .mark => s.siu.markEdge
      | .keep => s.siu.keepEdge
      | .undo => s.siu.undoEdge
    let entry := match line with
      | .mark => WakeEntry.mark s.siu.strobeTag
      | .keep => WakeEntry.keep
      | .undo => WakeEntry.undo
    let kind := match line with
      | .mark => QueueKind.mark s.siu.strobeTag
      | .keep => QueueKind.keep
      | .undo => QueueKind.undo
    let siu := if line = .mark then { s.siu with strobeTag := s.siu.strobeTag + 1 } else s.siu
    let lost :=
      { s.acu with
        flags := s.acu.flags ||| 0x80
        counters := { s.acu.counters with strobesLost := satAdd s.acu.counters.strobesLost 1 } }
    let woken := if s.ckc.waking = true then s.ckc else { s.ckc with waking := true, wakeCount := 0 }
    (edge = selected → s.ckc.state ≠ .dormant → s.ckc.queue.length < 4 →
      exec (.strobeEdge line edge) s = .next
        { s with siu := siu, ckc := { s.ckc with queue := s.ckc.queue ++ [⟨.strobe, kind⟩] } })
    ∧ (edge = selected → s.ckc.state ≠ .dormant → 4 ≤ s.ckc.queue.length →
      exec (.strobeEdge line edge) s = .next { s with siu := siu, acu := lost })
    ∧ (edge = selected → s.ckc.state = .dormant → s.siu.wakeList.length < 8 →
      exec (.strobeEdge line edge) s = .next
        { s with siu := { siu with wakeList := s.siu.wakeList ++ [entry] }, ckc := woken })
    ∧ (edge = selected → s.ckc.state = .dormant → 8 ≤ s.siu.wakeList.length →
      exec (.strobeEdge line edge) s = .next { s with siu := siu, acu := lost, ckc := woken })
    ∧ (edge ≠ selected → exec (.strobeEdge line edge) s = .next s)

/-- An edge of the FAULT line of the selected polarity sets the flag FAULT. With action UNDO_ALL it also empties
the command queue, counted in CANCELLED, where the part is in AWAIT, ENTER, MERGE, REPLAY or HALTED, or in READY
at depth 1 or more: the fault request is set in the first three and in READY, and in REPLAY and HALTED the target
falls to 0 with retarget pending unless it is 0 already. In DORMANT it is held as the wake fault and the wake
starts. The other edge does nothing (R82, R84, R138 to R140, R146). -/
def Obligations.FaultEventFollowsTheTable : Prop :=
  ∀ (s : State) (edge : Edge), s.resetHeld = false →
    let flagged := { s with acu := { s.acu with flags := s.acu.flags ||| 0x100 } }
    let emptied :=
      { s with
        ckc := { s.ckc with queue := [] }
        acu :=
          { s.acu with
            flags := s.acu.flags ||| 0x100
            counters :=
              { s.acu.counters with
                cancelled := satAdd s.acu.counters.cancelled s.ckc.queue.length } } }
    let requested := { emptied with ckc := { s.ckc with queue := [], faultRequest := true } }
    let retargeted :=
      { emptied with
        rpe :=
          { s.rpe with
            target := 0
            retargetPending := if s.rpe.target = 0 then s.rpe.retargetPending else true } }
    (edge = s.siu.faultPolarity → s.siu.faultAction = .undoAll → s.ckc.state ≠ .dormant →
      exec (.faultEvent edge) s = .next
        (match s.ckc.state with
          | .await | .enter | .merge => requested
          | .ready => if s.ckc.frames = [] then flagged else requested
          | .replay | .halted => retargeted
          | _ => flagged))
    ∧ (edge = s.siu.faultPolarity → s.siu.faultAction = .alertOnly → s.ckc.state ≠ .dormant →
      exec (.faultEvent edge) s = .next flagged)
    ∧ (edge = s.siu.faultPolarity → s.ckc.state = .dormant →
      exec (.faultEvent edge) s = .next
        { flagged with
          siu := { s.siu with wakeFault := true }
          ckc := if s.ckc.waking = true then s.ckc else { s.ckc with waking := true, wakeCount := 0 } })
    ∧ (edge ≠ s.siu.faultPolarity → exec (.faultEvent edge) s = .next s)

/-- At a tick every open frame ages by 1, up to 65535; outside a start-up a frame whose age has reached a threshold
is marked warned or expired, with WARN or EXPIRE set at the tick that marks it, and then the arrivals that levels
owe are made, level 1 first. In a start-up frames only age. No tick comes while the enable is OFF or in DORMANT. A
level that expired at this tick under UNDO_TO, or that owes an arrival for the frame it holds, makes a TIMER UNDO_TO
arrival with the frame's id: it joins the queue and the owed mark is emptied, or it is dropped and owed. A mark is
emptied where no frame stands at its level, or where its id is that of no open frame (R134, R149, R150, R152 to
R154, R157). That a TICK given while the timebase stands changes nothing is the model's choice (log 2). -/
def Obligations.TickAgesFramesAndMakesArrivals : Prop :=
  (∀ s : State, s.resetHeld = false →
     let older := fun a : Word16 => if a = 0xFFFF then a else a + 1
     let warns := fun f : Frame => !f.warned && decide (s.atu.warnAt ≤ older f.age)
     let expires := fun f : Frame => !f.expired && decide (s.atu.expireAt ≤ older f.age)
     let begun := { s with atu := { s.atu with prescaler := 0, divider := 0 } }
     (s.atu.enable = true → s.ckc.state ≠ .dormant → s.ckc.startUp = true →
       exec .tick s = .next
         { begun with
           ckc := { s.ckc with frames := s.ckc.frames.map fun f => { f with age := older f.age } } })
     ∧ (s.atu.enable = true → s.ckc.state ≠ .dormant → s.ckc.startUp = false →
       exec .tick s = .next (owedArrivals
         ((List.range s.ckc.frames.length).filter fun i =>
           decide (s.atu.action = .undoTo) && ((s.ckc.frames[i]?).map expires).getD false)
         [0, 1, 2, 3, 4, 5, 6, 7]
         { begun with
           ckc :=
             { s.ckc with
               frames :=
                 s.ckc.frames.map fun f =>
                   { f with
                     age := older f.age
                     warned := f.warned || warns f
                     expired := f.expired || expires f } }
           acu :=
             { s.acu with
               flags :=
                 s.acu.flags ||| (if s.ckc.frames.any warns = true then 0x20 else 0)
                   ||| (if s.ckc.frames.any expires = true then 0x40 else 0) } }))
     ∧ (s.atu.enable = false ∨ s.ckc.state = .dormant → exec .tick s = .next s))
  ∧ (∀ (s : State) (fresh : List Nat) (i : Nat) (h : i < 8),
       let owed := fun v : Option Word16 => { s with atu := { s.atu with owed := s.atu.owed.set i v } }
       (s.ckc.frames[i]? = none → owedArrivals fresh [i] s = owed none)
       ∧ (∀ f, s.ckc.frames[i]? = some f →
           (i ∈ fresh ∨ (s.atu.action = .undoTo ∧ s.atu.owed[i] = some f.id) →
             (s.ckc.queue.length < 4 →
               owedArrivals fresh [i] s =
                 { owed none with
                   ckc := { s.ckc with queue := s.ckc.queue ++ [⟨.timer, .undoTo f.id⟩] } })
             ∧ (4 ≤ s.ckc.queue.length → owedArrivals fresh [i] s = owed (some f.id)))
           ∧ (i ∉ fresh → s.atu.owed[i] = none → owedArrivals fresh [i] s = s)
           ∧ (∀ id, i ∉ fresh → s.atu.owed[i] = some id → (∀ g ∈ s.ckc.frames, g.id ≠ id) →
               owedArrivals fresh [i] s = owed none)))

/-! ## Alerts and counters -/

/-- ALERT is high exactly while some flag is set whose mask is set, and SETTLED exactly while the command queue
is empty and CKC is in READY, AWAIT, UNFORMATTED, BYPASS or DORMANT; neither is high while POR or RSTN holds the
part (R24, R93, R178). -/
def Obligations.AlertAndSettledShowTheState : Prop :=
  ∀ s : State,
    (alert s = true ↔
      s.resetHeld = false ∧ ∃ n, n < 14 ∧ s.acu.flags.getLsbD n = true ∧ s.acu.masks.getLsbD n = true)
    ∧ (settled s = true ↔
      s.resetHeld = false ∧ s.ckc.queue = []
        ∧ s.ckc.state ∈ [CtrlState.ready, .await, .unformatted, .bypass, .dormant])

/-- A counter never wraps: an increase by n gives the sum, or `$FFFF_FFFF` where the sum would pass it (R180).
CLEAR_COUNTS, in every controller state, sets the eight counters and the overflow count to 0 and reads DONE, and changes
nothing else; carried by a transaction in DORMANT it takes effect when the wake ends (R182). -/
def Obligations.CountersSaturateAndClear : Prop :=
  (∀ (c : BitVec 32) (n : Nat), (satAdd c n).toNat = min (c.toNat + n) 0xFFFFFFFF)
  ∧ ((∀ s : State, WritesAt 1 1 s →
       exec .clearCounts s = .next
         { s with
           acu := { s.acu with counters := ⟨0, 0, 0, 0, 0, 0, 0, 0⟩ }
           hbp := { s.hbp with overflow := 0 }
           svp := { afterWrite .cmd .ok s.svp with cmdResult := .done } })
     ∧ ∀ s : State, s.resetHeld = false → s.ckc.state = .dormant → s.svp.stall = none → s.svp.segment = .writing →
       s.svp.page = 1 → s.svp.index = .index 1 → s.siu.wakeList = [] → s.siu.wakeFault = false →
       s.hbp.current = none →
       ∃ t, exec .clearCounts s = .next t ∧ Touches [.ckc, .svp] s t ∧ t.ckc.waking = true
         ∧ ∀ order, exec (.wakeEnd order) t = .next
           { s with
             ckc := { s.ckc with state := .ready, waking := false, wakeCount := 0 }
             acu := { s.acu with counters := ⟨0, 0, 0, 0, 0, 0, 0, 0⟩ }
             hbp := { s.hbp with overflow := 0 }
             svp := { afterWrite .cmd .ok s.svp with cmdResult := .done } })

/-! ## Commands of the Service Port -/

/-- The five queued codes written to CMD join the queue as SERVICE arrivals, a MARK with CMDTAG and an UNDO_TO
with CMDFRAME, and CMDRESULT reads ACCEPTED; with 4 entries in the queue the arrival is dropped and it reads
QUEUE_FULL (R133 to R135, R190). -/
def Obligations.QueuedCommandsJoinTheQueue : Prop :=
  ∀ (s : State) (i : Instr) (kind : QueueKind), WritesAt 1 1 s →
    (i, kind) ∈
      [(Instr.cmdMark, QueueKind.mark s.svp.cmdTag), (.cmdKeep, .keep), (.cmdUndo, .undo), (.cmdUndoAll, .undoAll),
        (.cmdUndoTo, .undoTo s.svp.cmdFrame)] →
    (s.ckc.queue.length < 4 →
      exec i s = .next
        { s with
          ckc := { s.ckc with queue := s.ckc.queue ++ [⟨.service, kind⟩] }
          svp := { afterWrite .cmd .ok s.svp with cmdResult := .accepted } })
    ∧ (4 ≤ s.ckc.queue.length →
      exec i s = .next { s with svp := { afterWrite .cmd .ok s.svp with cmdResult := .queueFull } })

/-- FLUSH discards and counts the queue; POP_REFUSAL removes the head of the refusal list; RESTART becomes pending,
and the ENGINE request that waits is withdrawn unless it is half of a header write. QUIESCE enters DORMANT from
READY with nothing in progress. Each reads DONE (R94, R107, R126, R137, R162, R190). That QUIESCE asks for no
current host transaction is the model's inference (log 11). -/
def Obligations.ImmediateCommandsTakeEffect : Prop :=
  ∀ s : State, WritesAt 1 1 s →
    let svp := { afterWrite .cmd .ok s.svp with cmdResult := .done }
    exec .flush s = .next
        { s with
          ckc := { s.ckc with queue := [] }
          acu :=
            { s.acu with
              counters :=
                { s.acu.counters with
                  cancelled := satAdd s.acu.counters.cancelled s.ckc.queue.length } }
          svp := svp }
    ∧ (∀ r rest, s.hbp.refusals = r :: rest →
        exec .popRefusal s = .next { s with hbp := { s.hbp with refusals := rest }, svp := svp })
    ∧ exec .restart s = .next
        { s with
          ckc := { s.ckc with restartPending := true }
          mbp :=
            { s.mbp with
              waitEngine :=
                match s.mbp.waitEngine with
                | some r => if r.purpose = .headerHalf then some r else none
                | none => none }
          svp := svp }
    ∧ (s.ckc.state = .ready → s.ckc.queue = [] → s.ckc.inService = none → s.ckc.faultRequest = false →
        s.hbp.current = none → s.jmg.headerWrite = none → s.jmg.headerWaiting = none → s.svp.slotLoad = none →
        s.ckc.restartPending = false →
        exec .quiesce s = .next { s with ckc := { s.ckc with state := .dormant }, svp := svp })

/-- In HALTED with no header write in flight, RESUME returns to the walk, or to the opening header that a
start-up replay still owes; SKIP on a slot gives the slot at top − 1 up, after a retarget header if one is owed;
ABANDON asks for a CLEAN header. SYNC with HEADER_STALE set asks for a header of the stack as it stands, REPLAYING
in HALTED. FORMAT in READY at depth 0, AWAIT or UNFORMATTED discards the recovered frames and begins a wipe with a
WIPING header (R66, R67, R83, R86 to R88). -/
def Obligations.HaltAndJournalCommandsStartTheirWork : Prop :=
  ∀ s : State, WritesAt 1 1 s → s.jmg.headerWrite = none → s.jmg.headerWaiting = none →
    s.ckc.restartPending = false →
    let taken := { s with svp := commandDone s.svp }
    let replaying := rejudge { taken with ckc := { s.ckc with state := .replay } }
    let fs := s.ckc.frames
    let described := fun target : Nat =>
      (⟨.replaying, fs.length, target, brokenFlags fs, s.jmg.top, levelEntries fs⟩ : HeaderFields)
    (s.ckc.state = .halted → s.rpe.openingOwed = false →
      exec .resume s = .next (advanceIndex (walkHead replaying)))
    ∧ (s.ckc.state = .halted → s.rpe.openingOwed = true →
      exec .resume s = .next (advanceIndex
        (requestHeader .undoOpening (described s.rpe.target)
          { replaying with rpe := { s.rpe with step := .opening } })))
    ∧ (s.ckc.state = .halted → s.rpe.haltItem = .slot → s.rpe.retargetPending = false →
      exec .skip s = .next (advanceIndex (walkHead
        { replaying with
          jmg := { s.jmg with top := s.jmg.top - 1 }
          rpe := { s.rpe with partialUndo := true, skipOwed := false } })))
    ∧ (s.ckc.state = .halted → s.rpe.haltItem = .slot → s.rpe.retargetPending = true →
      exec .skip s = .next (advanceIndex
        (requestHeader .retarget (described 0)
          { replaying with rpe := { s.rpe with step := .retarget, skipOwed := true } })))
    ∧ (s.ckc.state = .halted →
      exec .abandon s = .next (advanceIndex
        (requestHeader .abandon ⟨.clean, 0, 0, 0, 0, []⟩
          { taken with rpe := { s.rpe with step := .abandoning } })))
    ∧ (s.jmg.headerStale = true → s.ckc.state = .halted →
      exec .sync s = .next (advanceIndex (requestHeader .sync (described s.rpe.target) taken)))
    ∧ (s.jmg.headerStale = true → s.ckc.state = .ready →
      exec .sync s = .next (advanceIndex
        (requestHeader .sync
          (if fs = [] then ⟨.clean, 0, 0, 0, 0, []⟩
            else ⟨.opened, fs.length, 0, brokenFlags fs, s.jmg.top, levelEntries fs⟩) taken)))
    ∧ (s.ckc.state = .ready ∧ fs = [] ∨ s.ckc.state = .unformatted ∨ s.ckc.state = .await →
      exec .format s = .next (advanceIndex
        (requestHeader .wipeOpening ⟨.wiping, 0, 0, 0, 0, []⟩ (rejudge
          { taken with
            ckc := { s.ckc with state := .wipe, frames := [] }
            cpe := { s.cpe with captureSet := [] }
            jmg := { s.jmg with top := 0, wipeCursor := 0 } }))))

/-- An immediate command whose rule does not allow it is refused: CMDRESULT reads WRONG_STATE and nothing else of
the part changes. A byte that names no command reads BAD_VALUE in CMDRESULT and SVCSTAT (R66, R67, R86, R107, R126,
R190). That any current host transaction refuses QUIESCE is the model's inference (log 11). -/
def Obligations.RefusedCommandsChangeNothing : Prop :=
  ∀ s : State, WritesAt 1 1 s →
    let wrong := { s with svp := { afterWrite .cmd .ok s.svp with cmdResult := .wrongState } }
    let busy := s.jmg.headerWrite ≠ none ∨ s.jmg.headerWaiting ≠ none ∨ s.ckc.restartPending = true
    (s.ckc.state ≠ .halted ∨ busy →
      exec .resume s = .next wrong ∧ exec .skip s = .next wrong ∧ exec .abandon s = .next wrong)
    ∧ (s.rpe.haltItem ≠ .slot → exec .skip s = .next wrong)
    ∧ (s.jmg.headerStale = false ∨ (s.ckc.state ≠ .ready ∧ s.ckc.state ≠ .halted) ∨ busy →
      exec .sync s = .next wrong)
    ∧ ((s.ckc.state ≠ .ready ∨ s.ckc.frames ≠ []) ∧ s.ckc.state ≠ .unformatted ∧ s.ckc.state ≠ .await ∨ busy →
      exec .format s = .next wrong)
    ∧ (s.ckc.state ≠ .ready ∨ s.ckc.queue ≠ [] ∨ s.ckc.inService ≠ none ∨ s.ckc.faultRequest = true
        ∨ s.hbp.current ≠ none ∨ s.svp.slotLoad ≠ none ∨ busy →
      exec .quiesce s = .next wrong)
    ∧ (s.hbp.refusals = [] → exec .popRefusal s = .next wrong)
    ∧ (∀ code : Byte, (Instr.unknownCommand code).wellFormed = true →
      exec (.unknownCommand code) s = .next
        { s with svp := { afterWrite .cmd .badValue s.svp with cmdResult := .badValue } })

/-! ## The two-wire bus -/

/-- An address byte that matches `$2C` + SA is acknowledged and begins a write segment, which awaits its index byte,
or a read segment; in DORMANT it also holds SCL and starts the wake. Any other address is not acknowledged. The
index byte sets the register index, or PAST from `$40` on. STOP discards the staged bytes and the snapshots. A data
byte at a register that is not written to, or at an index that no register occupies, is ignored and reads READ_ONLY
in SVCSTAT; at PAST it is ignored. CMDTAG and CMDFRAME stage their low byte and take the value of both at their high
byte. At any other register REGISTER_WRITE is the row named for that register, and at CMD the row of its code (the
model's choice of rows, log 19). In DORMANT a data byte of any of these rows is acknowledged and starts the wake, and SCL
is held with the byte until the wake ends. The index advances by 1 and stays PAST after `$3F` (R184, R185, R187 to R190,
R196). The fields for the acknowledge and the byte on SDA are the model's (log 21). -/
def Obligations.SegmentsMoveTheRegisterIndex : Prop :=
  (∀ (s : State) (a : BitVec 7) (d : Dir) (b : Byte), s.resetHeld = false → s.svp.stall = none →
     let segment := match d with
       | .write => Segment.awaitIndex
       | .read => Segment.reading
     (a.toNat = 0x2C + s.straps.sa.toNat → s.ckc.state ≠ .dormant →
       exec (.svcAddressMatch a d) s = .next
         { s with svp := { s.svp with segment := segment, ack := true, sda := none } })
     ∧ (a.toNat = 0x2C + s.straps.sa.toNat → s.ckc.state = .dormant →
       exec (.svcAddressMatch a d) s = .next
         { s with
           svp := { s.svp with segment := segment, ack := true, sda := none, stall := some .wakeAddress }
           ckc := if s.ckc.waking = true then s.ckc else { s.ckc with waking := true, wakeCount := 0 } })
     ∧ (a.toNat ≠ 0x2C + s.straps.sa.toNat →
       exec (.svcAddressMatch a d) s = .next
         { s with svp := { s.svp with segment := .ignored, ack := false, sda := none } })
     ∧ (s.svp.segment = .awaitIndex → b.toNat < 64 →
       exec (.svcIndexByte b) s = .next
         { s with
           svp :=
             { s.svp with
               index := .index (BitVec.ofNat 6 b.toNat)
               segment := .writing
               ack := true } })
     ∧ (s.svp.segment = .awaitIndex → 64 ≤ b.toNat →
       exec (.svcIndexByte b) s = .next
         { s with svp := { s.svp with index := .past, segment := .writing, ack := true } })
     ∧ exec .svcStop s = .next
         { s with svp := { s.svp with segment := .ignored, staging := [], snapshots := [], sda := none } })
  ∧ (∀ (s : State) (b : Byte), Hears s → s.svp.segment = .writing →
       let seen := { s.svp with ack := true, index := RegIndex.next s.svp.index }
       (∀ row, currentRow s = some row → isWritable row.reg = false →
         exec (.registerWrite b) s = .next { s with svp := { seen with stat := .readOnly } })
       ∧ (currentRow s = none → s.svp.index ≠ .past →
         exec (.registerWrite b) s = .next { s with svp := { seen with stat := .readOnly } })
       ∧ (s.svp.index = .past → exec (.registerWrite b) s = .next { s with svp := { s.svp with ack := true } })
       ∧ (∀ lo : Byte,
           let low := fun r : Reg =>
             let found := s.svp.staging.find? fun q => q.reg = r && q.offset = 0
             found = some ⟨r, 0, lo⟩ ∨ found = none ∧ lo = (regBytes s r).getD 0 0
           (WritesAt 1 0x03 s → low .cmdtag →
             exec (.registerWrite b) s = .next { s with svp := { afterWrite .cmdtag .ok s.svp with cmdTag := b ++ lo } })
           ∧ (WritesAt 1 0x05 s → low .cmdframe →
             exec (.registerWrite b) s = .next
               { s with svp := { afterWrite .cmdframe .ok s.svp with cmdFrame := b ++ lo } }))
       ∧ (∀ (x : BitVec 6) (r : Reg), (x, r) ∈ [(0x02, Reg.cmdtag), (0x04, .cmdframe)] → WritesAt 1 x s →
           exec (.registerWrite b) s = .next
             { s with
               svp :=
                 { s.svp with
                   ack := true
                   index := .index (x + 1)
                   staging := (s.svp.staging.filter fun q => !(q.reg = r && q.offset = 0)) ++ [⟨r, 0, b⟩] } }))
  ∧ (∀ (s : State) (b : Byte) (r : Reg) (i : Instr), currentReg s = some r →
       (r, i) ∈
         [(Reg.page, Instr.pageWrite b), (.highwater, .highwaterWrite b), (.strobecfg, .strobecfgWrite b),
           (.strobetag, .strobetagWrite b), (.ticksel, .tickselWrite b), (.timercfg, .timercfgWrite b),
           (.warnat, .warnatWrite b), (.expireat, .expireatWrite b), (.memwatch, .memwatchWrite b),
           (.regidx, .regidxWrite b), (.regclass, .regionStagingWrite b), (.regbase, .regionStagingWrite b),
           (.reglimit, .regionStagingWrite b), (.regcommit, .regcommit b), (.slotidx, .slotidxWrite b),
           (.slotload, .slotload b), (.frameidx, .frameidxWrite b), (.flags, .flagsWrite b), (.masks, .masksWrite b),
           (.ctrsel, .ctrselWrite b)] →
       exec (.registerWrite b) s = exec i s)
  ∧ (∀ (s : State) (b : Byte) (i : Instr), currentReg s = some .cmd →
       (b, i) ∈
         [((0x01 : Byte), Instr.cmdMark), (0x02, .cmdKeep), (0x03, .cmdUndo), (0x04, .cmdUndoAll), (0x05, .cmdUndoTo),
           (0x10, .resume), (0x11, .skip), (0x12, .abandon), (0x13, .sync), (0x14, .format), (0x15, .quiesce),
           (0x16, .restart), (0x17, .flush), (0x18, .clearCounts), (0x19, .popRefusal)]
         ∨ i = .unknownCommand b ∧ i.wellFormed = true →
       exec (.registerWrite b) s = exec i s)
  ∧ (∀ (s : State) (b : Byte), s.resetHeld = false → s.svp.stall = none → s.svp.segment = .writing →
       s.ckc.state = .dormant →
       exec (.registerWrite b) s = .next
         { s with
           svp := { s.svp with ack := true, stall := some (.wakeByte b) }
           ckc := if s.ckc.waking = true then s.ckc else { s.ckc with waking := true, wakeCount := 0 } })

/-- A byte of 0 to 3 written to PAGE selects that page at its data byte, and the index after it is `$01`; the
staging and the snapshots of other registers stay until the STOP, which discards them. A byte of 4 or more is not
taken: the page is unchanged and SVCSTAT reads BAD_VALUE. PAGE reads the selected page, stands at `$00` of every
page, and every other index reaches a register of the selected page or none (R186). The field for the acknowledge is
the model's (log 21). -/
def Obligations.PageWriteSelectsThePage : Prop :=
  ∀ (s : State) (b : Byte),
    (∀ p, WritesAt p 0 s → (∀ q ∈ s.svp.staging, q.reg ≠ .page) →
      let after := { s.svp with ack := true, index := .index 1 }
      exec (.pageWrite b) s = .next
        { s with
          svp :=
            if b.toNat < 4 then { after with page := BitVec.ofNat 2 b.toNat, stat := .ok }
            else { after with stat := .badValue } })
    ∧ (s.resetHeld = false → s.svp.stall = none →
      exec .svcStop s = .next
        { s with svp := { s.svp with segment := .ignored, staging := [], snapshots := [], sda := none } })
    ∧ regBytes s .page = [BitVec.setWidth 8 s.svp.page]
    ∧ (s.svp.index = .index 0 → currentReg s = some .page)
    ∧ (∀ i row, i ≠ 0 → s.svp.index = .index i → currentRow s = some row → row.page = some s.svp.page.toNat)

/-- A data byte at a one-byte register is taken at once when its value is legal, and otherwise changes nothing
but SVCSTAT, which reads BAD_VALUE: STROBECFG's five fields, TICKSEL below 16 with prescaler and
divider 0, TIMERCFG, MEMWATCH from 1, REGIDX below 12 with the staging loaded from the descriptor, FRAMEIDX below
8, CTRSEL below 8 (R147, R149, R156, R170, R181, R189, R191, R195, R200). -/
def Obligations.OneByteRegistersTakeLegalValues : Prop :=
  ∀ (s : State) (b : Byte),
    let v := b.toNat
    let ok := fun r : Reg => afterWrite r .ok s.svp
    let bad := fun r : Reg => { s with svp := afterWrite r .badValue s.svp }
    (WritesAt 1 0x07 s →
      exec (.strobecfgWrite b) s = .next
        { s with
          svp := ok .strobecfg
          siu :=
            { s.siu with
              markEdge := if b.getLsbD 0 = true then .falling else .rising
              keepEdge := if b.getLsbD 1 = true then .falling else .rising
              undoEdge := if b.getLsbD 2 = true then .falling else .rising
              faultPolarity := if b.getLsbD 3 = true then .rising else .falling
              faultAction := if b.getLsbD 4 = true then .alertOnly else .undoAll } })
    ∧ (WritesAt 1 0x0A s →
      exec (.tickselWrite b) s = .next
        (if v < 16 then
          { s with
            svp := ok .ticksel
            atu := { s.atu with tickSel := BitVec.ofNat 4 v, prescaler := 0, divider := 0 } }
        else bad .ticksel))
    ∧ (WritesAt 1 0x0B s →
      let on := b.getLsbD 0
      let runs := on = true ∧ s.atu.enable = true
      exec (.timercfgWrite b) s = .next
        { s with
          svp := ok .timercfg
          atu :=
            { s.atu with
              enable := on
              action := if b.getLsbD 1 = true then .undoTo else .alertOnly
              prescaler := if runs then s.atu.prescaler else 0
              divider := if runs then s.atu.divider else 0
              owed :=
                if s.atu.action = .undoTo ∧ b.getLsbD 1 = false then Vector.replicate 8 none
                else s.atu.owed } })
    ∧ (WritesAt 1 0x10 s →
      exec (.memwatchWrite b) s = .next
        (if 1 ≤ v then { s with svp := ok .memwatch, mbp := { s.mbp with watchLimit := b } } else bad .memwatch))
    ∧ (WritesAt 2 0x01 s →
      exec (.regidxWrite b) s = .next
        (if h : v < 12 then
          { s with svp := { ok .regidx with regionIndex := v, regionStaging := s.hbp.regions[v] } }
        else bad .regidx))
    ∧ (WritesAt 2 0x20 s →
      exec (.frameidxWrite b) s = .next
        (if v < 8 then { s with svp := { ok .frameidx with frameIndex := BitVec.ofNat 3 v } } else bad .frameidx))
    ∧ (WritesAt 3 0x05 s →
      exec (.ctrselWrite b) s = .next
        (if v < 8 then { s with svp := ok .ctrsel, acu := { s.acu with counterSelect := BitVec.ofNat 3 v } }
        else bad .ctrsel))

/-- The low byte of a two-byte register is staged and changes nothing else; the high byte then takes effect with
the value of both, where a low byte not written keeps its present value, or counts as 0 in FLAGS: HIGHWATER from 1 to capacity, STROBETAG, WARNAT and EXPIREAT from 1, SLOTIDX below capacity,
FLAGS clearing each flag written as one, and MASKS. A value out of range changes nothing and reads BAD_VALUE
(R58, R131, R156, R176, R177, R187, R189, R192, R200). -/
def Obligations.TwoByteRegistersTakeTheWholeValue : Prop :=
  ∀ (s : State) (b : Byte),
    (∀ (i : Instr) (p : BitVec 2) (x : BitVec 6) (r : Reg),
      (i, p, x, r) ∈
        [(Instr.highwaterWrite b, 0, 0x0A, Reg.highwater), (.strobetagWrite b, 1, 0x08, .strobetag),
          (.warnatWrite b, 1, 0x0C, .warnat), (.expireatWrite b, 1, 0x0E, .expireat),
          (.slotidxWrite b, 2, 0x0C, .slotidx), (.flagsWrite b, 3, 0x01, .flags), (.masksWrite b, 3, 0x03, .masks)] →
      WritesAt p x s →
      exec i s = .next
        { s with
          svp :=
            { s.svp with
              ack := true
              index := .index (x + 1)
              staging := (s.svp.staging.filter fun q => !(q.reg = r && q.offset = 0)) ++ [⟨r, 0, b⟩] } })
    ∧ ∀ (lo : Byte),
      let v := lo.toNat + 256 * b.toNat
      let low := fun r : Reg =>
        let found := s.svp.staging.find? fun q => q.reg = r && q.offset = 0
        found = some ⟨r, 0, lo⟩ ∨ found = none ∧ lo = if r = .flags then 0 else (regBytes s r).getD 0 0
      let ok := fun r : Reg => afterWrite r .ok s.svp
      let bad := fun r : Reg => { s with svp := afterWrite r .badValue s.svp }
      (WritesAt 0 0x0B s → low .highwater →
        exec (.highwaterWrite b) s = .next
          (if 1 ≤ v ∧ v ≤ capacity s.straps then
            { s with svp := ok .highwater, jmg := { s.jmg with highWater := v } }
          else bad .highwater))
      ∧ (WritesAt 1 0x09 s → low .strobetag →
        exec (.strobetagWrite b) s = .next
          { s with svp := ok .strobetag, siu := { s.siu with strobeTag := BitVec.ofNat 16 v } })
      ∧ (WritesAt 1 0x0D s → low .warnat →
        exec (.warnatWrite b) s = .next
          (if 1 ≤ v then { s with svp := ok .warnat, atu := { s.atu with warnAt := BitVec.ofNat 16 v } }
          else bad .warnat))
      ∧ (WritesAt 1 0x0F s → low .expireat →
        exec (.expireatWrite b) s = .next
          (if 1 ≤ v then { s with svp := ok .expireat, atu := { s.atu with expireAt := BitVec.ofNat 16 v } }
          else bad .expireat))
      ∧ (WritesAt 2 0x0D s → low .slotidx →
        exec (.slotidxWrite b) s = .next
          (if v < capacity s.straps then { s with svp := { ok .slotidx with slotIndex := v } }
          else bad .slotidx))
      ∧ (WritesAt 3 0x02 s → low .flags →
        exec (.flagsWrite b) s = .next
          { s with
            svp := ok .flags
            acu := { s.acu with flags := s.acu.flags &&& ~~~(BitVec.ofNat 14 v) } })
      ∧ (WritesAt 3 0x04 s → low .masks →
        exec (.masksWrite b) s = .next
          { s with svp := ok .masks, acu := { s.acu with masks := BitVec.ofNat 14 v } })

/-- REGCLASS goes to the region staging at its byte, and REGBASE and REGLIMIT at their highest, the bytes before it
being staged; a byte of the two not written keeps what the staging holds (the model's inference, log 15). REGCOMMIT, whatever byte is written, changes the descriptor of the region
index: LOCKED outside READY, UNFORMATTED and BYPASS and at depth 1 or more; a staged VALID off clears the
descriptor's VALID alone; a staged descriptor whose base and limit are multiples of 64, with base below limit and
limit no more than the array size, replaces it; any other reads BAD_VALUE in REGSTAT (R114, R116, R191). -/
def Obligations.RegionCommitsAtDepthZeroOnly : Prop :=
  ∀ (s : State) (b : Byte),
    (WritesAt 2 0x02 s →
      exec (.regionStagingWrite b) s = .next
        { s with
          svp :=
            { afterWrite .regclass .ok s.svp with
              regionStaging :=
                { s.svp.regionStaging with
                  valid := b.getLsbD 0
                  cls := RegionClass.ofCode (b.toNat / 2)
                  policy := if b.getLsbD 3 = true then .breach else .refuse } } })
    ∧ (∀ (x : BitVec 6) (r : Reg) (k : Nat),
        (x, r, k) ∈
          [(0x03, Reg.regbase, 0), (0x04, .regbase, 1), (0x06, .reglimit, 0), (0x07, .reglimit, 1),
            (0x08, .reglimit, 2)] →
        WritesAt 2 x s →
      exec (.regionStagingWrite b) s = .next
        { s with
          svp :=
            { s.svp with
              ack := true
              index := .index (x + 1)
              staging := (s.svp.staging.filter fun q => !(q.reg = r && q.offset = k)) ++ [⟨r, k, b⟩] } })
    ∧ (∀ b0 b1 b2 : Byte,
        let low := fun (r : Reg) (k : Nat) (v present : Byte) =>
          let found := s.svp.staging.find? fun q => q.reg = r && q.offset = k
          found = some ⟨r, k, v⟩ ∨ found = none ∧ v = present
        let g := s.svp.regionStaging
        (WritesAt 2 0x05 s → low .regbase 0 b0 (g.base.extractLsb' 0 8) → low .regbase 1 b1 (g.base.extractLsb' 8 8) →
          exec (.regionStagingWrite b) s = .next
            { s with
              svp := { afterWrite .regbase .ok s.svp with regionStaging := { g with base := b ++ b1 ++ b0 } } })
        ∧ (WritesAt 2 0x09 s → low .reglimit 0 b0 (g.limit.extractLsb' 0 8) →
            low .reglimit 1 b1 (g.limit.extractLsb' 8 8) → low .reglimit 2 b2 (g.limit.extractLsb' 16 8) →
          exec (.regionStagingWrite b) s = .next
            { s with
              svp :=
                { afterWrite .reglimit .ok s.svp with
                  regionStaging := { g with limit := BitVec.setWidth 25 (b ++ b2 ++ b1 ++ b0) } } }))
    ∧ (WritesAt 2 0x0A s → (h : s.svp.regionIndex < 12) →
      let g := s.svp.regionStaging
      let svp := fun st : RegStat => { afterWrite .regcommit .ok s.svp with regStat := st }
      let free := (s.ckc.state = .ready ∨ s.ckc.state = .unformatted ∨ s.ckc.state = .bypass) ∧ s.ckc.frames = []
      let legal := g.base.toNat % 64 = 0 ∧ g.limit.toNat % 64 = 0 ∧ g.base.toNat < g.limit.toNat
        ∧ g.limit.toNat ≤ arraySize s.straps
      let committed := fun r : Region =>
        { s with
          svp := svp .done
          hbp := { s.hbp with regions := s.hbp.regions.set s.svp.regionIndex r } }
      (¬ free → exec (.regcommit b) s = .next { s with svp := svp .locked })
      ∧ (free → g.valid = false →
        exec (.regcommit b) s = .next (committed { s.hbp.regions[s.svp.regionIndex] with valid := false }))
      ∧ (free → g.valid = true → legal → exec (.regcommit b) s = .next (committed g))
      ∧ (free → g.valid = true → ¬ legal → exec (.regcommit b) s = .next { s with svp := svp .badValue }))

/-- SLOTLOAD presents the SERVICE read of the indexed slot; with a load in flight it holds SCL instead. The end of
the read fills the window with the 16 bytes: ABOVE_TOP when the slot is not live, VALID when it is and passes the
four tests of R52, INVALID when it fails one; a read that fails gives MEMERR and zero bytes. With SCL held after a
SLOTLOAD the load of the slot index is then presented, and SCL is released; with SCL held before a byte of SLOTSTAT or
SLOTDATA the byte is sent from the new window and the index advances (R192 to R194). The byte enables of a read are the
model's choice (log 24), and the field for the byte on SDA is the model's (log 21). -/
def Obligations.SlotLoadFillsTheWindow : Prop :=
  (∀ (s : State) (b : Byte), WritesAt 2 0x0E s →
    (s.svp.slotLoad = none →
      exec (.slotload b) s = .next
        { s with
          svp := { afterWrite .slotload .ok s.svp with slotLoad := some s.svp.slotIndex }
          mbp :=
            { s.mbp with
              waitService :=
                some ⟨.service, .slotLoad, slotAddr s.straps s.svp.slotIndex, .read, .four, 0xF, []⟩ } })
    ∧ (s.svp.slotLoad ≠ none →
      exec (.slotload b) s = .next
        { s with svp := { afterWrite .slotload .ok s.svp with stall := some .loadAgain } }))
  ∧ ∀ (s : State) (n : Nat) (cells : Beats), Awaits .slotLoad s → s.svp.slotLoad = some n →
    let bs := bytesOfCells ((Vector.toList cells).take 4)
    let valid := slotValidates (journalBase s.straps) bs = true
    let filled :=
      { s with
        mbp := answered s.mbp
        svp :=
          { s.svp with
            slotLoad := none
            slotStatus := if s.jmg.top ≤ n then .aboveTop else if valid then .valid else .invalid
            slotBytes := bs } }
    let failed :=
      { s with
        mbp := answered s.mbp
        acu := { s.acu with flags := s.acu.flags ||| 0x400 }
        svp := { s.svp with slotLoad := none, slotStatus := .memerr, slotBytes := List.replicate 16 0 } }
    (s.svp.stall = none →
      exec (.slotLoadEnd (.done cells)) s = .next filled ∧ exec (.slotLoadEnd .error) s = .next failed)
    ∧ (s.svp.stall = some .loadAgain →
      let again := fun u : State =>
        { u with
          svp := { u.svp with stall := none, slotLoad := some s.svp.slotIndex }
          mbp :=
            { u.mbp with
              waitService :=
                some ⟨.service, .slotLoad, slotAddr s.straps s.svp.slotIndex, .read, .four, 0xF, []⟩ } }
      exec (.slotLoadEnd (.done cells)) s = .next (again filled)
      ∧ exec (.slotLoadEnd .error) s = .next (again failed))
    ∧ ∀ (ack : Bool) (x : BitVec 6), s.svp.stall = some (.slotByte ack) → s.svp.page = 2 → s.svp.index = .index x →
      let sent := fun (u : State) (b : Byte) =>
        { u with
          svp :=
            { u.svp with
              stall := none
              sda := some b
              segment := if ack = true then .reading else .ignored
              index := .index (x + 1) } }
      (x = 0x0F →
        exec (.slotLoadEnd (.done cells)) s = .next (sent filled (if s.jmg.top ≤ n then 3 else if valid then 1 else 2))
        ∧ exec (.slotLoadEnd .error) s = .next (sent failed 4))
      ∧ (0x10 ≤ x.toNat → x.toNat < 0x20 →
        exec (.slotLoadEnd (.done cells)) s = .next (sent filled (bs.getD (x.toNat - 0x10) 0))
        ∧ exec (.slotLoadEnd .error) s = .next (sent failed 0))

/-- A byte read is the byte of the register at the index, and the index advances; a byte that the controller does
not acknowledge is the last. The lowest byte of a register of several takes its snapshot, from which its other bytes
are read until the STOP; a higher byte read without a snapshot is the byte as it stands; where no register stands the
byte is `$00`. While a slot load is in flight a byte of the slot window holds SCL. The registers stand at the pages and
indexes of the map, and each reads the state it names in its encoding, least significant byte first: FRAMEDATA the
frame of the frame index, or ten zero bytes where it is ABSENT; REFHEAD the head of the refusal list, or zero bytes;
CTRVAL the selected counter; REGCLASS, REGBASE and REGLIMIT the descriptor of the region index (R126, R179, R181, R185,
R188, R191, R194, R195, R200). The field for the byte on SDA is the model's (log 21). -/
def Obligations.ReadsComeFromTheSnapshot : Prop :=
  (∀ (s : State) (ack : Bool), s.resetHeld = false → s.svp.stall = none → s.svp.segment = .reading →
     let sent := fun (b : Byte) (v : Svp) =>
       { s with
         svp :=
           { v with
             sda := some b
             segment := if ack = true then .reading else .ignored
             index := RegIndex.next s.svp.index } }
     (∀ row (i : BitVec 6), currentRow s = some row → s.svp.index = .index i →
         row.reg = .slotstat ∨ row.reg = .slotdata → s.svp.slotLoad = none →
       exec (.readSegmentByte ack) s = .next (sent ((regBytes s row.reg).getD (i.toNat - row.index) 0) s.svp))
     ∧ (∀ row, currentRow s = some row → row.bytes = 1 → row.reg ≠ .slotstat →
       exec (.readSegmentByte ack) s = .next (sent ((regBytes s row.reg).getD 0 0) s.svp))
     ∧ (∀ row (i : BitVec 6), currentRow s = some row → 1 < row.bytes → row.reg ≠ .slotdata →
         s.svp.index = .index i → i.toNat = row.index →
       exec (.readSegmentByte ack) s = .next
         (sent ((regBytes s row.reg).getD 0 0)
           { s.svp with
             snapshots :=
               ⟨row.reg, regBytes s row.reg⟩ :: s.svp.snapshots.filter fun x => x.reg ≠ row.reg }))
     ∧ (∀ row (k : Nat) (i : BitVec 6) (x : Snapshot), currentRow s = some row → 1 < row.bytes →
         row.reg ≠ .slotdata → 1 ≤ k → s.svp.index = .index i → i.toNat = row.index + k →
         (s.svp.snapshots.find? fun x => x.reg = row.reg) = some x →
       exec (.readSegmentByte ack) s = .next (sent (x.bytes.getD k 0) s.svp))
     ∧ (∀ row (k : Nat) (i : BitVec 6), currentRow s = some row → 1 < row.bytes → row.reg ≠ .slotdata → 1 ≤ k →
         s.svp.index = .index i → i.toNat = row.index + k → (∀ x ∈ s.svp.snapshots, x.reg ≠ row.reg) →
       exec (.readSegmentByte ack) s = .next (sent ((regBytes s row.reg).getD k 0) s.svp))
     ∧ (currentRow s = none → exec (.readSegmentByte ack) s = .next (sent 0 s.svp))
     ∧ (∀ row, currentRow s = some row → row.reg = .slotstat ∨ row.reg = .slotdata → s.svp.slotLoad ≠ none →
       exec (.readSegmentByte ack) s = .next { s with svp := { s.svp with stall := some (.slotByte ack) } }))
  ∧ (let map : List (BitVec 2 × BitVec 6 × Reg × Nat) :=
      [(0, 0x01, Reg.id, 1), (0, 0x02, .rev, 1), (0, 0x03, .cstate, 1), (0, 0x04, .depth, 1), (0, 0x05, .qcount, 1),
       (0, 0x06, .top, 2), (0, 0x08, .capacity, 2), (0, 0x0A, .highwater, 2), (0, 0x0C, .nextserial, 7),
       (0, 0x13, .haltwhy, 1), (0, 0x14, .lastout, 2), (0, 0x16, .lasttag, 2), (0, 0x18, .lastframe, 2),
       (0, 0x1A, .straps, 1), (0, 0x1B, .svcstat, 1), (1, 0x01, .cmd, 1), (1, 0x02, .cmdtag, 2),
       (1, 0x04, .cmdframe, 2), (1, 0x06, .cmdresult, 1), (1, 0x07, .strobecfg, 1), (1, 0x08, .strobetag, 2),
       (1, 0x0A, .ticksel, 1), (1, 0x0B, .timercfg, 1), (1, 0x0C, .warnat, 2), (1, 0x0E, .expireat, 2),
       (1, 0x10, .memwatch, 1), (2, 0x01, .regidx, 1), (2, 0x02, .regclass, 1), (2, 0x03, .regbase, 3),
       (2, 0x06, .reglimit, 4), (2, 0x0A, .regcommit, 1), (2, 0x0B, .regstat, 1), (2, 0x0C, .slotidx, 2),
       (2, 0x0E, .slotload, 1), (2, 0x0F, .slotstat, 1), (2, 0x10, .slotdata, 16), (2, 0x20, .frameidx, 1),
       (2, 0x21, .framedata, 10), (3, 0x01, .flags, 2), (3, 0x03, .masks, 2), (3, 0x05, .ctrsel, 1),
       (3, 0x06, .ctrval, 4), (3, 0x0A, .refcount, 1), (3, 0x0B, .refhead, 7), (3, 0x12, .refovf, 1)]
     ∀ (s : State) (i : BitVec 6), s.svp.index = .index i →
       (i = 0 → currentRow s = some ⟨none, 0, .page, 1⟩)
       ∧ (∀ low r n, (s.svp.page, low, r, n) ∈ map → low.toNat ≤ i.toNat → i.toNat < low.toNat + n →
           currentRow s = some ⟨some s.svp.page.toNat, low.toNat, r, n⟩)
       ∧ (i ≠ 0 → (∀ low r n, (s.svp.page, low, r, n) ∈ map → i.toNat < low.toNat ∨ low.toNat + n ≤ i.toNat) →
           currentRow s = none))
  ∧ ∀ s : State,
    let le := fun (n v : Nat) => (List.range n).map fun k => (BitVec.ofNat 8 (v / 256 ^ k) : Byte)
    let bit := fun (b : Bool) (weight : Nat) => if b = true then weight else 0
    (regBytes s .page = le 1 s.svp.page.toNat ∧ regBytes s .id = [0x4A] ∧ regBytes s .rev = [0x01]
      ∧ regBytes s .cstate =
        le 1
          ((match s.ckc.state with
              | .scan => 0 | .recover => 1 | .unformatted => 2 | .await => 3 | .ready => 4 | .enter => 5
              | .merge => 6 | .replay => 7 | .halted => 8 | .wipe => 9 | .dormant => 10 | .bypass => 11)
            + bit s.ckc.startUp 64 + bit s.jmg.headerStale 128)
      ∧ regBytes s .depth = le 1 s.ckc.frames.length ∧ regBytes s .qcount = le 1 s.ckc.queue.length
      ∧ regBytes s .top = le 2 s.jmg.top ∧ regBytes s .capacity = le 2 (capacity s.straps)
      ∧ regBytes s .highwater = le 2 s.jmg.highWater ∧ regBytes s .nextserial = le 7 s.jmg.nextSerial
      ∧ regBytes s .haltwhy =
        le 1
          ((match s.rpe.haltReason with | .none => 0 | .corruptSlot => 1 | .memory => 2)
            + 16 * (match s.rpe.haltItem with | .none => 0 | .slot => 1 | .header => 2))
      ∧ regBytes s .lastout =
        le 1
          ((match s.ckc.last.source with
              | .none => 0 | .strobe => 1 | .service => 2 | .timer => 3 | .fault => 4 | .start => 5)
            + 8 * (match s.ckc.last.kind with
              | .none => 0 | .mark => 1 | .keep => 2 | .undo => 3 | .undoAll => 4 | .undoTo => 5))
        ++ le 1
          (match s.ckc.last.outcome with
            | .none => 0 | .done => 1 | .donePartial => 2 | .noLevel => 3 | .depthLimit => 4 | .stale => 5
            | .headerFailed => 6 | .abandoned => 7 | .unformatted => 8 | .bypassed => 9)
      ∧ regBytes s .lasttag = le 2 s.ckc.last.tag.toNat ∧ regBytes s .lastframe = le 2 s.ckc.last.frameId.toNat
      ∧ regBytes s .straps = le 1 (s.straps.pl.toNat + 8 * s.straps.rp.toNat + 32 * s.straps.sa.toNat)
      ∧ regBytes s .svcstat =
        le 1 (match s.svp.stat with | .none => 0 | .ok => 1 | .readOnly => 2 | .badValue => 3))
    ∧ (regBytes s .cmd = [0] ∧ regBytes s .regcommit = [0] ∧ regBytes s .slotload = [0]
      ∧ regBytes s .cmdtag = le 2 s.svp.cmdTag.toNat ∧ regBytes s .cmdframe = le 2 s.svp.cmdFrame.toNat
      ∧ regBytes s .cmdresult =
        le 1
          (match s.svp.cmdResult with
            | .none => 0 | .accepted => 1 | .queueFull => 2 | .done => 3 | .wrongState => 4 | .badValue => 5)
      ∧ regBytes s .strobecfg =
        le 1
          (bit (s.siu.markEdge = .falling) 1 + bit (s.siu.keepEdge = .falling) 2
            + bit (s.siu.undoEdge = .falling) 4 + bit (s.siu.faultPolarity = .rising) 8
            + bit (s.siu.faultAction = .alertOnly) 16)
      ∧ regBytes s .strobetag = le 2 s.siu.strobeTag.toNat ∧ regBytes s .ticksel = le 1 s.atu.tickSel.toNat
      ∧ regBytes s .timercfg =
        le 1
          (bit s.atu.enable 1 + bit (s.atu.action = .undoTo) 2
            + 16 * (s.atu.owed.toList.filter Option.isSome).length)
      ∧ regBytes s .warnat = le 2 s.atu.warnAt.toNat ∧ regBytes s .expireat = le 2 s.atu.expireAt.toNat
      ∧ regBytes s .memwatch = le 1 s.mbp.watchLimit.toNat)
    ∧ (regBytes s .regidx = le 1 s.svp.regionIndex
      ∧ (∀ h : s.svp.regionIndex < 12,
        let g := s.hbp.regions[s.svp.regionIndex]
        regBytes s .regclass =
          le 1
            (bit g.valid 1
              + 2 * (match g.cls with | .pass => 0 | .journaled => 1 | .steady => 2 | .barred => 3)
              + bit (g.policy = .breach) 8)
        ∧ regBytes s .regbase = le 3 g.base.toNat ∧ regBytes s .reglimit = le 4 g.limit.toNat)
      ∧ regBytes s .regstat =
        le 1 (match s.svp.regStat with | .none => 0 | .done => 1 | .locked => 2 | .badValue => 3)
      ∧ regBytes s .slotidx = le 2 s.svp.slotIndex
      ∧ regBytes s .slotstat =
        le 1
          (match s.svp.slotStatus with
            | .none => 0 | .valid => 1 | .invalid => 2 | .aboveTop => 3 | .memerr => 4)
      ∧ regBytes s .slotdata = s.svp.slotBytes ∧ regBytes s .frameidx = le 1 s.svp.frameIndex.toNat
      ∧ (∀ f, s.ckc.frames[s.svp.frameIndex.toNat]? = some f →
        regBytes s .framedata =
          le 1
              (1 + 2 * (match f.origin with | .strobe => 0 | .service => 1 | .recovered => 2)
                + bit f.warned 8 + bit f.expired 16 + bit f.broken 32)
            ++ le 1 f.level ++ le 2 f.start ++ le 2 f.tag.toNat ++ le 2 f.id.toNat ++ le 2 f.age.toNat)
      ∧ (s.ckc.frames.length ≤ s.svp.frameIndex.toNat → regBytes s .framedata = List.replicate 10 0))
    ∧ (regBytes s .flags = le 2 s.acu.flags.toNat ∧ regBytes s .masks = le 2 s.acu.masks.toNat
      ∧ regBytes s .ctrsel = le 1 s.acu.counterSelect.toNat
      ∧ (let c := s.acu.counters
         regBytes s .ctrval =
          le 4
            (([c.captures, c.already, c.untracked, c.replayed, c.breaches, c.refusals, c.strobesLost,
              c.cancelled].getD s.acu.counterSelect.toNat 0).toNat))
      ∧ regBytes s .refcount = le 1 s.hbp.refusals.length
      ∧ (s.hbp.refusals = [] → regBytes s .refhead = List.replicate 7 0)
      ∧ (∀ r rest, s.hbp.refusals = r :: rest →
        regBytes s .refhead =
          le 2 r.number.toNat ++ le 3 r.addr.toNat
            ++ le 1
              (bit (r.dir = .write) 1
                + 2 * (match r.len with | .one => 0 | .two => 1 | .four => 2 | .eight => 3))
            ++ le 1
              (match r.reason with
                | .misaligned => 1 | .crossing => 2 | .outOfArray => 3 | .journalArea => 4 | .barred => 5
                | .steadyLocked => 6 | .unformatted => 7 | .awaiting => 8 | .halted => 9 | .wiping => 10
                | .headerStale => 11 | .serialSpent => 12 | .journalFull => 13 | .memoryError => 14
                | .memoryTimeout => 15))
      ∧ regBytes s .refovf = le 1 s.hbp.overflow)

/-- The wake ends in READY. With nothing held no more happens; the strobes of the wake list arrive in their order,
those that find the queue full dropped as LOST; the wake fault is taken as a fault event in READY, setting FAULT and
with action UNDO_ALL at depth 1 or more emptying the queue, counted in CANCELLED, and setting the fault request. Where
both are held the operand says which is first, the strobes unless it names the fault before them: the fault discards the
arrivals, or they join the queue behind it. A held address byte releases SCL, and a held data byte is written as in
READY. A held transaction is checked, and refused, answered, passed or put in GATE by its class, and a JOURNALED write
enters the gate at once where R8 lets it, ahead of the held strobes, or of the fault, unless the operand names them before
it; then it waits in GATE behind the arrivals, or behind the fault request (R8, R109, R112, R113, R118, R120, R134, R140,
R146, R196). That WAKE_END carries the order, and that a write let in counts as handled when it has entered the gate,
is the model's choice (log 10). -/
def Obligations.WakeEndsInReadyWithItsEvents : Prop :=
  ∀ (s : State) (order : List WakeEvent), s.ckc.waking = true →
    let ready := { s.ckc with state := .ready, waking := false, wakeCount := 0 }
    let woken : State := { s with ckc := ready }
    let kinds := s.siu.wakeList.map fun
      | .mark tag => QueueKind.mark tag
      | .keep => QueueKind.keep
      | .undo => QueueKind.undo
    let lost := kinds.length - 4
    let arrived := fun u : State =>
      { u with
        ckc := { u.ckc with queue := (kinds.take 4).map fun k => ⟨.strobe, k⟩ }
        siu := { u.siu with wakeList := [] }
        acu :=
          { u.acu with
            flags := if lost = 0 then u.acu.flags else u.acu.flags ||| 0x80
            counters := { u.acu.counters with strobesLost := satAdd u.acu.counters.strobesLost lost } } }
    let acts := s.siu.faultAction = .undoAll ∧ s.ckc.frames ≠ []
    let faulted := fun u : State =>
      { u with
        ckc := if acts then { u.ckc with queue := [], faultRequest := true } else u.ckc
        siu := { u.siu with wakeFault := false }
        acu :=
          { u.acu with
            flags := u.acu.flags ||| 0x100
            counters :=
              { u.acu.counters with
                cancelled :=
                  if acts then satAdd u.acu.counters.cancelled u.ckc.queue.length else u.acu.counters.cancelled } } }
    (s.siu.wakeList = [] → s.siu.wakeFault = false → s.hbp.current = none →
      s.svp.stall = none ∨ s.svp.stall = some .wakeAddress →
      exec (.wakeEnd order) s = .next { woken with svp := { s.svp with stall := none } })
    ∧ (s.siu.wakeFault = false → s.hbp.current = none → s.svp.stall = none → s.ckc.queue = [] →
      exec (.wakeEnd order) s = .next (arrived woken))
    ∧ (s.siu.wakeList = [] → s.siu.wakeFault = true → s.hbp.current = none → s.svp.stall = none →
      exec (.wakeEnd order) s = .next (faulted woken))
    ∧ (s.siu.wakeFault = true → s.hbp.current = none → s.svp.stall = none → s.ckc.queue = [] →
      exec (.wakeEnd order) s = .next
        (if (order.find? fun w => w = .strobes || w = .fault) = some .fault then arrived (faulted woken)
         else faulted (arrived woken)))
    ∧ (∀ b, s.siu.wakeList = [] → s.siu.wakeFault = false → s.hbp.current = none → s.svp.stall = some (.wakeByte b) →
      s.svp.segment = .writing → s.svp.ack = true → s.resetHeld = false →
      exec (.wakeEnd order) s = exec (.registerWrite b) { woken with svp := { s.svp with stall := none } })
    ∧ (∀ c, s.svp.stall = none → s.hbp.current = some c → c.disposition = .untaken → s.resetHeld = false →
        s.ckc.restartPending = false →
      let t := c.txn
      let entry := lookupRegion s.hbp.regions t.addr
      let cls := entry.1
      let shut := cls = .steady ∧ s.ckc.frames ≠ []
      let taken := fun d : Disposition => { woken with hbp := { s.hbp with current := some ⟨t, d, cls, entry.2⟩ } }
      (s.siu.wakeList = [] → s.siu.wakeFault = false →
        (∀ why, firstFailedCheck woken t = some why →
          exec (.wakeEnd order) s = .next (refuseTxn t why woken))
        ∧ (firstFailedCheck woken t = none → cls = .barred →
          exec (.wakeEnd order) s = .next (refuseTxn t .barred woken))
        ∧ (firstFailedCheck woken t = none → shut → t.dir = .write →
          exec (.wakeEnd order) s = .next (refuseTxn t .steadyLocked woken))
        ∧ (firstFailedCheck woken t = none → isEmptyWrite t = true → cls ≠ .barred → ¬ shut →
          exec (.wakeEnd order) s = .next
            { woken with hbp := { s.hbp with current := none, answer := .okay [] } })
        ∧ (firstFailedCheck woken t = none → isEmptyWrite t = false →
            cls = .pass ∨ t.dir = .read ∧ cls ≠ .barred ∨ cls = .steady ∧ s.ckc.frames = [] →
          exec (.wakeEnd order) s = .next
            { taken .service with mbp := { s.mbp with waitHost := some (mirrorRequest t) } }))
      ∧ (firstFailedCheck woken t = none → isEmptyWrite t = false → cls = .journaled → t.dir = .write →
          s.ckc.queue = [] →
        (s.siu.wakeList = [] → s.siu.wakeFault = false →
          exec (.wakeEnd order) s = exec .gateEntry (taken .gate))
        ∧ (s.siu.wakeList ≠ [] → s.siu.wakeFault = false →
          if (order.find? fun w => w = .host || w = .strobes) = some .strobes then
            exec (.wakeEnd order) s = .next (arrived (taken .gate))
          else
            ∃ u, exec .gateEntry (taken .gate) = .next u ∧ exec (.wakeEnd order) s = .next (arrived u))
        ∧ (s.siu.wakeList = [] → s.siu.wakeFault = true →
          if (order.find? fun w => w = .host || w = .fault) = some .fault then
            exec (.wakeEnd order) s = exec .gateEntry (faulted (taken .gate))
            ∧ (acts → exec (.wakeEnd order) s = .next (faulted (taken .gate)))
          else
            ∃ u, exec .gateEntry (taken .gate) = .next u ∧ exec (.wakeEnd order) s = .next (faulted u))))

/-! ## The memory bus -/

/-- In phase FREE the arbiter searches HOST, ENGINE, SERVICE cyclically from the one after the last grant, and the
first that waits leaves its place and is issued with the watch limit that stands; in any other phase, and with none
waiting, no grant is made. A request presented while another requester's transaction was the last granted is granted
at the first or the second grant that follows, and any request within three (R160, R163, R164, R167). That the
fraction of a microsecond begins anew at an issue, and that ARBITER_GRANT changes nothing where no grant is made,
are the model's choices (logs 13 and 2). -/
def Obligations.ArbiterGrantsInRotation : Prop :=
  (searchOrder .host = [.engine, .service, .host] ∧ searchOrder .engine = [.service, .host, .engine]
    ∧ searchOrder .service = [.host, .engine, .service])
  ∧ (∀ (s : State) (r : Requester) (q : MemRequest) (first rest : List Requester), s.resetHeld = false →
      s.mbp.phase = .free → searchOrder s.mbp.lastGrant = first ++ r :: rest → waitingOf s.mbp r = some q →
      (∀ x ∈ first, waitingOf s.mbp x = none) →
      exec .arbiterGrant s = .next
        { s with
          mbp :=
            { clearWaiting s.mbp r with
              outstanding := some ⟨q, s.mbp.watchLimit⟩
              lastGrant := r
              watchCount := 0
              watchPeriods := 0
              phase := .busy } })
  ∧ (∀ s : State, s.mbp.phase ≠ .free ∨ (∀ r, waitingOf s.mbp r = none) → exec .arbiterGrant s = .next s)
  ∧ ∀ (m1 m2 m3 : Mbp) (r g1 g2 g3 : Requester), waitingOf m1 r ≠ none → waitingOf m2 r ≠ none →
      waitingOf m3 r ≠ none → nextGrant m1 = some g1 → m2.lastGrant = g1 → nextGrant m2 = some g2 →
      m3.lastGrant = g2 → nextGrant m3 = some g3 →
      (m1.lastGrant ≠ r → g1 = r ∨ g2 = r) ∧ (g1 = r ∨ g2 = r ∨ g3 = r)

/-- When the watch runs out the transaction ends TIMEOUT: MEMERR is set and the bus drains by the watch limit that
stands. Its requester acts as for an error, but that a host transaction is refused MEMORY_TIMEOUT: a pass-through of
any class, a JOURNALED write releasing the gate it holds at depth 0; and a capture at its pre-image read, its append or
its host write, which is discarded with an entry for each record completed, and the gate released. The drain ends in
FREE when its count is reached or the late answer comes, which is discarded; SETTLE ends in FREE when its count is
reached, and a late answer does not end it. In FREE with nothing outstanding none of these does anything (R8, R39 to
R42, R121, R167 to R169, R171). That the drain takes the watch limit of MEMWATCH as it stands at the timeout is the
model's inference (log 12). That the fraction of a microsecond begins anew at a timeout, and that an event outside its phase
changes nothing, are the model's choices (logs 13 and 2). -/
def Obligations.TimeoutsDrainAndTheBusGoesFree : Prop :=
  ((∀ (s : State) (x : MemTxn), s.mbp.outstanding = some x →
     exec .memoryWatchTimeout s = .next (endingConsequence x.request.purpose .timeout
       { s with
         mbp :=
           { s.mbp with
             outstanding := none
             phase := .drain
             watchCount := 0
             watchPeriods := 0
             drainLimit := s.mbp.watchLimit }
         acu := { s.acu with flags := s.acu.flags ||| 0x400 } }))
   ∧ (∀ (p : Purpose) (u : State),
       p ∈ [Purpose.headerHalf, .scanHeaderRead, .scanSlotRead, .replaySlotRead, .restore, .wipeSlots, .slotLoad] →
       endingConsequence p .timeout u = endingConsequence p .error u)
   ∧ (∀ (u : State) (c : Current), u.hbp.current = some c →
       endingConsequence .passThrough .timeout u = refuseTxn c.txn .memoryTimeout
         { u with
           ckc :=
             { u.ckc with
               gateHeld := if c.cls = .journaled ∧ c.txn.dir = .write then false else u.ckc.gateHeld } })
   ∧ ∀ (u : State) (k : Capture) (h : Current), u.cpe.capture = some k → u.hbp.current = some h →
       let closed := fun v : State =>
         { v with cpe := { v.cpe with capture := none }, ckc := { v.ckc with gateHeld := false } }
       let entered := insertEntries k.level (k.list.take k.appended) u
       (k.appended = 0 →
         endingConsequence .preImageRead .timeout u = refuseTxn h.txn .memoryTimeout (closed u))
       ∧ endingConsequence .append .timeout u = refuseTxn h.txn .memoryTimeout (closed entered)
       ∧ endingConsequence .captureWrite .timeout u = refuseTxn h.txn .memoryTimeout (closed entered))
  ∧ (∀ s : State, s.resetHeld = false → s.mbp.outstanding = none →
       let freed := { s with mbp := { s.mbp with phase := .free } }
       (s.mbp.phase = .drain →
         exec .drainEnd s = .next freed ∧ exec .lateResponse s = .next freed ∧ exec .settleEnd s = .next s)
       ∧ (s.mbp.phase = .settle →
         exec .settleEnd s = .next freed ∧ exec .lateResponse s = .next s ∧ exec .drainEnd s = .next s)
       ∧ (s.mbp.phase = .free →
         exec .drainEnd s = .next s ∧ exec .settleEnd s = .next s ∧ exec .lateResponse s = .next s))

/-! ## The whole machine -/

/-- No step overfills the command queue, the wake list, the refusal list or its overflow count, or the capture
set, or makes two entries of the capture set alike, from any state that keeps these bounds (R27, R125, R132,
R146). -/
def Obligations.EveryStepKeepsTheBounds : Prop :=
  ∀ s t : State, QueuesBounded s → RefusalsBounded s → CaptureSetBounded s → step s = .next t →
    QueuesBounded t ∧ RefusalsBounded t ∧ CaptureSetBounded t

/-- The stack holds one frame for each level from 1 to depth, and depth never passes 8, whatever step is taken
from a state where this holds (R3, R4). -/
def Obligations.EveryStepKeepsTheStackOrdered : Prop :=
  ∀ s t : State, StackOrdered s → step s = .next t → StackOrdered t

/-- A memory transaction is outstanding exactly in phase BUSY, and every configuration value stays in its legal
range, after any step from a state where both hold (R58, R156, R160, R170, R191). -/
def Obligations.EveryStepKeepsTheBusAndConfiguration : Prop :=
  ∀ s t : State, BusExclusive s → ConfigLegal s → step s = .next t → BusExclusive t ∧ ConfigLegal t

/-- The machine right after a power-on reset meets every invariant that steps keep. -/
def Obligations.ResetMeetsTheInvariants : Prop :=
  QueuesBounded State.reset ∧ RefusalsBounded State.reset ∧ CaptureSetBounded State.reset
    ∧ StackOrdered State.reset ∧ BusExclusive State.reset ∧ ConfigLegal State.reset

/-- No step but POR and RSTN changes the region table while a level is open, and no step but RESET_END changes the
straps (R92, R116). The period of REFCLK that passes with no command waiting is such a step: the end of a wake, which
may write a held REGCOMMIT byte, comes in it before the end of a memory transaction, which may close the last level, by
the model's choice (log 26). That POR and RSTN themselves leave the straps as they were until the reset ends is the model's
inference (log 32). -/
def Obligations.RegionsAndStrapsStandStill : Prop :=
  ∀ s t : State, step s = .next t →
    (s.ckc.frames ≠ [] → t.hbp.regions ≠ s.hbp.regions →
      s.pending.head? = some .por ∨ s.pending.head? = some .rstn)
    ∧ (t.straps ≠ s.straps → ∃ st, s.pending.head? = some (.resetEnd st))
end

