-- ==== Sys2Proof/Laws/Frame.lean ====
section
/-! SUPPORT. For each operation of the model, which blocks of the state it can change: one lemma
`<operation>_touches` apiece, so that a later proof reads off an unchanged block and never unfolds the
operation. -/

namespace Sys2Proof.Laws

-- One declaration at a time: elaborated side by side, these proofs start more threads than the memory limit of
-- the package's check allows.
set_option Elab.async false

open Sys2Proof.Machine Sys2Proof.Safety

variable {s t u : State} {as bs cs : List Block}

/-! ## Composing -/

theorem Touches_refl (s : State) : Touches [] s s := fun b _ => by cases b <;> rfl

theorem Keeps_trans {b : Block} (h1 : Keeps s t b) (h2 : Keeps t u b) : Keeps s u b := by
  cases b <;> exact Eq.trans h2 h1

theorem Touches_trans (h1 : Touches as s t) (h2 : Touches bs t u) (h : as ++ bs ⊆ cs := by decide) :
    Touches cs s u := fun b hb =>
  Keeps_trans (h1 b fun hm => hb (h (List.mem_append_left _ hm)))
    (h2 b fun hm => hb (h (List.mem_append_right _ hm)))

theorem Touches_mono (h1 : Touches as s t) (h : as ⊆ cs := by decide) : Touches cs s t :=
  fun b hb => h1 b fun hm => hb (h hm)

theorem Touches_self (s : State) : Touches cs s s := Touches_mono (Touches_refl s) (List.nil_subset _)

/-! ## One block at a time -/

theorem touches_ckc (s : State) (x : Ckc) : Touches [.ckc] s { s with ckc := x } := by
  intro b h; cases b <;> first | rfl | exact absurd (by decide) h

theorem touches_cpe (s : State) (x : Cpe) : Touches [.cpe] s { s with cpe := x } := by
  intro b h; cases b <;> first | rfl | exact absurd (by decide) h

theorem touches_jmg (s : State) (x : Jmg) : Touches [.jmg] s { s with jmg := x } := by
  intro b h; cases b <;> first | rfl | exact absurd (by decide) h

theorem touches_rpe (s : State) (x : Rpe) : Touches [.rpe] s { s with rpe := x } := by
  intro b h; cases b <;> first | rfl | exact absurd (by decide) h

theorem touches_hbp (s : State) (x : Hbp) : Touches [.hbp] s { s with hbp := x } := by
  intro b h; cases b <;> first | rfl | exact absurd (by decide) h

theorem touches_siu (s : State) (x : Siu) : Touches [.siu] s { s with siu := x } := by
  intro b h; cases b <;> first | rfl | exact absurd (by decide) h

theorem touches_atu (s : State) (x : Atu) : Touches [.atu] s { s with atu := x } := by
  intro b h; cases b <;> first | rfl | exact absurd (by decide) h

theorem touches_mbp (s : State) (x : Mbp) : Touches [.mbp] s { s with mbp := x } := by
  intro b h; cases b <;> first | rfl | exact absurd (by decide) h

theorem touches_acu (s : State) (x : Acu) : Touches [.acu] s { s with acu := x } := by
  intro b h; cases b <;> first | rfl | exact absurd (by decide) h

theorem touches_svp (s : State) (x : Svp) : Touches [.svp] s { s with svp := x } := by
  intro b h; cases b <;> first | rfl | exact absurd (by decide) h

theorem touches_jmg_rpe (s : State) (j0 : Jmg) (r1 : Rpe) :
    Touches [.jmg, .rpe] s { s with jmg := j0, rpe := r1 } := by
  intro b h; cases b <;> first | rfl | exact absurd (by decide) h

theorem touches_ckc_jmg (s : State) (c0 : Ckc) (j1 : Jmg) :
    Touches [.ckc, .jmg] s { s with ckc := c0, jmg := j1 } := by
  intro b h; cases b <;> first | rfl | exact absurd (by decide) h

theorem touches_ckc_cpe (s : State) (c0 : Ckc) (c1 : Cpe) :
    Touches [.ckc, .cpe] s { s with ckc := c0, cpe := c1 } := by
  intro b h; cases b <;> first | rfl | exact absurd (by decide) h

theorem touches_ckc_cpe_jmg (s : State) (c0 : Ckc) (c1 : Cpe) (j2 : Jmg) :
    Touches [.ckc, .cpe, .jmg] s { s with ckc := c0, cpe := c1, jmg := j2 } := by
  intro b h; cases b <;> first | rfl | exact absurd (by decide) h

theorem touches_ckc_cpe_rpe (s : State) (c0 : Ckc) (c1 : Cpe) (r2 : Rpe) :
    Touches [.ckc, .cpe, .rpe] s { s with ckc := c0, cpe := c1, rpe := r2 } := by
  intro b h; cases b <;> first | rfl | exact absurd (by decide) h

theorem touches_ckc_rpe (s : State) (c0 : Ckc) (r1 : Rpe) :
    Touches [.ckc, .rpe] s { s with ckc := c0, rpe := r1 } := by
  intro b h; cases b <;> first | rfl | exact absurd (by decide) h

theorem touches_acu_hbp (s : State) (a0 : Acu) (h1 : Hbp) :
    Touches [.acu, .hbp] s { s with acu := a0, hbp := h1 } := by
  intro b h; cases b <;> first | rfl | exact absurd (by decide) h

theorem touches_ckc_mbp (s : State) (c0 : Ckc) (m1 : Mbp) :
    Touches [.ckc, .mbp] s { s with ckc := c0, mbp := m1 } := by
  intro b h; cases b <;> first | rfl | exact absurd (by decide) h

theorem touches_ckc_cpe_jmg_rpe (s : State) (c0 : Ckc) (c1 : Cpe) (j2 : Jmg) (r3 : Rpe) :
    Touches [.ckc, .cpe, .jmg, .rpe] s { s with ckc := c0, cpe := c1, jmg := j2, rpe := r3 } := by
  intro b h; cases b <;> first | rfl | exact absurd (by decide) h

/-! ## Flags.lean -/

theorem raise_touches (f : Flag) (s : State) : Touches [.acu] s (raise f s) := by
  intro b h; cases b <;> first | rfl | exact absurd (by decide) h

theorem raiseIf_touches (c : Bool) (f : Flag) (s : State) : Touches [.acu] s (raiseIf c f s) := by
  unfold raiseIf; split
  · exact raise_touches f s
  · exact Touches_self s

theorem count_touches (k : Counter) (n : Nat) (s : State) : Touches [.acu] s (count k n s) := by
  intro b h; cases b <;> first | rfl | exact absurd (by decide) h

/-! ## Ops.lean -/

theorem present_touches (r : MemRequest) (s : State) : Touches [.mbp] s (present r s) := by
  unfold present; split <;> exact touches_mbp s _

theorem presentEngine_touches (r : MemRequest) (s : State) : Touches [.mbp] s (presentEngine r s) := by
  unfold presentEngine; split
  · exact Touches_self s
  · exact present_touches r s

theorem endTransaction_touches (e : Ending) (s : State) : Touches [.mbp, .acu] s (endTransaction e s) := by
  unfold endTransaction; split
  · exact Touches_mono (touches_mbp s _)
  · exact Touches_trans (touches_mbp s _) (raise_touches _ _)
  · exact Touches_trans (touches_mbp s _) (raise_touches _ _)

theorem answerOkay_touches (d : List Cell) (s : State) : Touches [.hbp] s (answerOkay d s) := by
  intro b h; cases b <;> first | rfl | exact absurd (by decide) h

theorem refuseTxn_touches (t : HostTxn) (why : Reason) (s : State) : Touches [.hbp, .acu] s (refuseTxn t why s) := by
  unfold refuseTxn
  exact Touches_trans (Touches_trans (touches_hbp s _) (raise_touches _ _) (cs := [.hbp, .acu])) (count_touches _ _ _)

theorem refuse_touches (why : Reason) (s : State) : Touches [.hbp, .acu] s (refuse why s) := by
  unfold refuse; split
  · exact Touches_self s
  · exact refuseTxn_touches _ _ s

theorem respond_touches (why : Option Reason) (d : List Cell) (s : State) : Touches [.hbp, .acu] s (respond why d s) := by
  unfold respond; split
  · exact refuse_touches _ s
  · exact Touches_mono (answerOkay_touches d s)

theorem releaseGate_touches (s : State) : Touches [.ckc] s (releaseGate s) := by
  intro b h; cases b <;> first | rfl | exact absurd (by decide) h

theorem enqueue_touches (e : QueueEntry) (s : State) : Touches [.ckc] s (enqueue e s) := by
  intro b h; cases b <;> first | rfl | exact absurd (by decide) h

theorem strobeArrival_touches (k : QueueKind) (s : State) : Touches [.ckc, .acu] s (strobeArrival k s) := by
  unfold strobeArrival; split
  · exact Touches_mono (enqueue_touches _ s)
  · exact Touches_trans (raise_touches _ s) (count_touches _ _ _)

theorem serviceArrival_touches (k : QueueKind) (s : State) : Touches [.ckc, .svp] s (serviceArrival k s) := by
  unfold serviceArrival; split
  · exact Touches_trans (touches_svp s _) (enqueue_touches _ _)
  · exact Touches_mono (touches_svp s _)

theorem discardQueue_touches (s : State) : Touches [.ckc, .acu] s (discardQueue s) := by
  unfold discardQueue
  exact Touches_trans (touches_ckc s _) (count_touches _ _ _)

theorem recordOutcome_touches (o : LastOutcome) (s : State) : Touches [.ckc, .acu] s (recordOutcome o s) := by
  unfold recordOutcome; split
  · exact Touches_self s
  · exact Touches_trans (touches_ckc s _) (raiseIf_touches _ _ _)

theorem leaveService_touches (s : State) : Touches [.ckc] s (leaveService s) := by
  intro b h; cases b <;> first | rfl | exact absurd (by decide) h

theorem setStale_touches (s : State) : Touches [.jmg, .acu] s (setStale s) := by
  unfold setStale
  exact Touches_trans (touches_jmg s _) (raiseIf_touches _ _ _)

/-! ## HostPort.lean -/

theorem setDisposition_touches (d : Disposition) (s : State) : Touches [.hbp] s (setDisposition d s) := by
  intro b h; cases b <;> first | rfl | exact absurd (by decide) h

theorem passThrough_touches (t : HostTxn) (s : State) : Touches [.hbp, .mbp] s (passThrough t s) := by
  unfold passThrough
  exact Touches_trans (setDisposition_touches _ s) (present_touches _ _)

theorem passOrHold_touches (t : HostTxn) (s : State) : Touches [.hbp, .mbp] s (passOrHold t s) := by
  unfold passOrHold; split
  · exact Touches_mono (setDisposition_touches _ s)
  · exact passThrough_touches t s

theorem dispose_touches (c : Current) (s : State) : Touches [.hbp, .mbp, .acu] s (dispose c s) := by
  unfold dispose
  split
  · exact Touches_mono (passOrHold_touches _ s)
  · exact Touches_mono (refuseTxn_touches _ _ s)
  · split
    · exact Touches_mono (refuseTxn_touches _ _ s)
    · exact Touches_mono (passOrHold_touches _ s)
  · split
    · exact Touches_mono (passOrHold_touches _ s)
    · exact Touches_mono (setDisposition_touches _ s)
    · exact Touches_mono (setDisposition_touches _ s)
    · exact Touches_mono (refuseTxn_touches _ _ s)

theorem disposeEmptyWrite_touches (c : Current) (s : State) : Touches [.hbp, .acu] s (disposeEmptyWrite c s) := by
  unfold disposeEmptyWrite
  split
  · exact refuseTxn_touches _ _ s
  · split
    · exact refuseTxn_touches _ _ s
    · exact Touches_mono (answerOkay_touches _ s)
  · exact Touches_mono (answerOkay_touches _ s)

theorem takeTxn_touches (t : HostTxn) (s : State) : Touches [.hbp, .mbp, .acu] s (takeTxn t s) := by
  unfold takeTxn; split
  · exact Touches_mono (refuseTxn_touches _ _ s)
  · dsimp only; split
    · exact Touches_trans (touches_hbp s _) (disposeEmptyWrite_touches _ _)
    · exact Touches_trans (touches_hbp s _) (dispose_touches _ _)

theorem rejudge_touches (s : State) : Touches [.hbp, .mbp, .acu] s (rejudge s) := by
  unfold rejudge; split
  · exact Touches_self s
  · split
    · split
      · exact takeTxn_touches _ s
      · exact Touches_self s
    · split
      · exact Touches_mono (setDisposition_touches _ s)
      · exact dispose_touches _ s
    · split
      · exact Touches_mono (setDisposition_touches _ s)
      · exact dispose_touches _ s
    · exact Touches_self s
    · exact Touches_self s

theorem endStartUp_touches (s : State) : Touches [.ckc, .acu] s (endStartUp s) := by
  unfold endStartUp
  exact Touches_trans (touches_ckc s _) (raise_touches _ _)

theorem enterState_touches (st : CtrlState) (s : State) : Touches [.ckc, .hbp, .mbp, .acu] s (enterState st s) := by
  unfold enterState; dsimp only; split
  · exact Touches_trans (Touches_trans (touches_ckc s _) (endStartUp_touches _) (cs := [.ckc, .acu])) (rejudge_touches _)
  · exact Touches_trans (touches_ckc s _) (rejudge_touches _)

theorem completeCommand_touches (o : LastOutcome) (st : CtrlState) (s : State) : Touches [.ckc, .hbp, .mbp, .acu] s (completeCommand o st s) := by
  unfold completeCommand
  exact Touches_trans (Touches_trans (recordOutcome_touches o s) (leaveService_touches _) (cs := [.ckc, .acu]))
    (enterState_touches st _)

/-! ## CaptureEngine.lean -/

theorem insertEntry_touches (e : CaptureEntry) (s : State) : Touches [.cpe, .acu] s (insertEntry e s) := by
  unfold insertEntry; split
  · exact Touches_self s
  · split
    · exact Touches_mono (touches_cpe s _)
    · exact Touches_mono (count_touches _ _ s)

theorem insertEntries_touches (l : Nat) (as : List Addr) (s : State) :
    Touches [.cpe, .acu] s (insertEntries l as s) := by
  induction as generalizing s with
  | nil => exact Touches_self s
  | cons a as ih => exact Touches_trans (insertEntry_touches _ s) (ih _)

theorem emptyCaptureSet_touches (s : State) : Touches [.cpe] s (emptyCaptureSet s) := by
  intro b h; cases b <;> first | rfl | exact absurd (by decide) h

theorem setCapture_touches (c : Capture) (s : State) : Touches [.cpe] s (setCapture c s) := by
  intro b h; cases b <;> first | rfl | exact absurd (by decide) h

theorem finishCapture_touches (c : Capture) (why : Option Reason) (s : State) : Touches [.ckc, .cpe, .hbp, .acu] s (finishCapture c why s) := by
  unfold finishCapture
  exact Touches_trans (Touches_trans (insertEntries_touches _ _ s) (touches_cpe _ _) (cs := [.cpe, .acu]))
    (Touches_trans (releaseGate_touches _) (respond_touches _ _ _) (cs := [.ckc, .hbp, .acu]))

theorem beginHostWrite_touches (c : Capture) (s : State) : Touches [.cpe, .mbp] s (beginHostWrite c s) := by
  unfold beginHostWrite
  exact Touches_trans (setCapture_touches _ s) (present_touches _ _)

theorem beginAppend_touches (c : Capture) (s : State) : Touches [.cpe, .jmg, .mbp] s (beginAppend c s) := by
  unfold beginAppend
  exact Touches_trans (Touches_trans (setCapture_touches _ s) (touches_jmg _ _) (cs := [.cpe, .jmg])) (present_touches _ _)

theorem beginPreImageRead_touches (c : Capture) (s : State) : Touches [.cpe, .mbp] s (beginPreImageRead c s) := by
  unfold beginPreImageRead
  exact Touches_trans (setCapture_touches _ s) (present_touches _ _)

theorem breakFrames_touches (s : State) : Touches [.ckc] s (breakFrames s) := by
  intro b h; cases b <;> first | rfl | exact absurd (by decide) h

theorem beginBreach_touches (c : Capture) (s : State) : Touches [.ckc, .cpe, .mbp, .acu] s (beginBreach c s) := by
  unfold beginBreach
  exact Touches_trans (Touches_trans (Touches_trans (raise_touches _ s) (count_touches _ _ _) (cs := [.acu]))
    (breakFrames_touches _) (cs := [.ckc, .acu])) (beginHostWrite_touches _ _)

theorem checkCapture_touches (c : Capture) (s : State) : Touches [.ckc, .cpe, .hbp, .mbp, .acu] s (checkCapture c s) := by
  unfold checkCapture; dsimp only
  split
  · exact Touches_trans (count_touches _ _ s) (beginHostWrite_touches _ _)
  split
  · exact Touches_mono (finishCapture_touches _ _ s)
  split
  · exact Touches_mono (finishCapture_touches _ _ s)
  split
  · exact Touches_mono (beginPreImageRead_touches _ s)
  split
  · exact Touches_trans (raise_touches _ s) (finishCapture_touches _ _ _)
  · exact Touches_trans (raise_touches _ s) (beginBreach_touches _ _)

theorem enterGate_touches (c : Current) (s : State) : Touches [.ckc, .cpe, .hbp, .mbp, .acu] s (enterGate c s) := by
  unfold enterGate; dsimp only; split
  · exact Touches_trans (touches_ckc s _) (passThrough_touches _ _)
  · exact Touches_trans (Touches_trans (Touches_trans (touches_ckc s _) (setDisposition_touches _ _) (cs := [.ckc, .hbp]))
      (setCapture_touches _ _) (cs := [.ckc, .cpe, .hbp])) (checkCapture_touches _ _)

theorem tryGate_touches (s : State) : Touches [.ckc, .cpe, .hbp, .mbp, .acu] s (tryGate s) := by
  unfold tryGate; split
  · split
    · exact enterGate_touches _ s
    · exact Touches_self s
  · exact Touches_self s

theorem preImageReadEnded_touches (e : Ending) (s : State) : Touches [.ckc, .cpe, .jmg, .hbp, .mbp, .acu] s (preImageReadEnded e s) := by
  unfold preImageReadEnded; split
  · exact Touches_self s
  · split
    · exact Touches_mono (finishCapture_touches _ _ s)
    · exact Touches_mono (beginAppend_touches _ s)

theorem raiseTop_touches (s : State) : Touches [.jmg, .acu] s (raiseTop s) := by
  unfold raiseTop
  exact Touches_trans (touches_jmg s _) (raiseIf_touches _ _ _)

theorem appendEnded_touches (e : Ending) (s : State) : Touches [.ckc, .cpe, .jmg, .hbp, .mbp, .acu] s (appendEnded e s) := by
  unfold appendEnded; split
  · exact Touches_self s
  · split
    · exact Touches_mono (finishCapture_touches _ _ s)
    · have h := Touches_trans (raiseTop_touches s) (count_touches .captures 1 _) (cs := [.jmg, .acu])
      dsimp only; split
      · exact Touches_trans h (beginAppend_touches _ _)
      · exact Touches_trans h (beginHostWrite_touches _ _)

theorem captureWriteEnded_touches (e : Ending) (s : State) : Touches [.ckc, .cpe, .hbp, .acu] s (captureWriteEnded e s) := by
  unfold captureWriteEnded; split
  · exact Touches_self s
  · exact finishCapture_touches _ _ s

theorem passThroughEnded_touches (e : Ending) (s : State) : Touches [.ckc, .hbp, .acu] s (passThroughEnded e s) := by
  unfold passThroughEnded; split
  · exact Touches_self s
  · refine Touches_trans (as := [.ckc]) ?_ (respond_touches _ _ _)
    split
    · exact releaseGate_touches s
    · exact Touches_self s

/-! ## Journal.lean -/

theorem issueHeader_touches (r : HeaderRequest) (s : State) : Touches [.jmg, .mbp] s (issueHeader r s) := by
  unfold issueHeader
  exact Touches_trans (touches_jmg s _) (present_touches _ _)

theorem requestHeader_touches (p : HeaderPurpose) (f : HeaderFields) (s : State) : Touches [.jmg, .mbp] s (requestHeader p f s) := by
  unfold requestHeader; split
  · exact Touches_self s
  · split
    · exact Touches_mono (touches_jmg s _)
    · exact issueHeader_touches _ s

theorem issueWaitingHeader_touches (s : State) : Touches [.jmg, .mbp] s (issueWaitingHeader s) := by
  unfold issueWaitingHeader; split
  · split
    · exact issueHeader_touches _ s
    · exact Touches_self s
  · exact Touches_self s

theorem issueSecondHalf_touches (w : HeaderWrite) (s : State) : Touches [.jmg, .mbp] s (issueSecondHalf w s) := by
  unfold issueSecondHalf
  exact Touches_trans (touches_jmg s _) (present_touches _ _)

theorem headerCompleted_touches (w : HeaderWrite) (s : State) : Touches [.jmg] s (headerCompleted w s) := by
  intro b h; cases b <;> first | rfl | exact absurd (by decide) h

theorem headerFailed_touches (w : HeaderWrite) (s : State) : Touches [.jmg] s (headerFailed w s) := by
  intro b h; cases b <;> first | rfl | exact absurd (by decide) h

theorem beginWipeClosing_touches (s : State) : Touches [.jmg, .mbp] s (beginWipeClosing s) := by
  unfold beginWipeClosing
  exact Touches_trans (touches_jmg s _) (requestHeader_touches _ _ _)

theorem continueWipe_touches (s : State) : Touches [.jmg, .mbp] s (continueWipe s) := by
  unfold continueWipe; split
  · exact Touches_mono (presentEngine_touches _ s)
  · exact beginWipeClosing_touches s

theorem beginWipe_touches (s : State) : Touches [.ckc, .jmg, .hbp, .mbp, .acu] s (beginWipe s) := by
  unfold beginWipe
  exact Touches_trans (Touches_trans (touches_jmg s _) (enterState_touches _ _)
    (cs := [.ckc, .jmg, .hbp, .mbp, .acu])) (requestHeader_touches _ _ _)

theorem resumeWipe_touches (s : State) : Touches [.ckc, .jmg, .hbp, .mbp, .acu] s (resumeWipe s) := by
  unfold resumeWipe
  exact Touches_trans (Touches_trans (touches_jmg s _) (enterState_touches _ _)
    (cs := [.ckc, .jmg, .hbp, .mbp, .acu])) (continueWipe_touches _)

theorem wipeSlotWriteEnded_touches (e : Ending) (s : State) : Touches [.jmg, .mbp] s (wipeSlotWriteEnded e s) := by
  unfold wipeSlotWriteEnded; split
  · exact Touches_trans (touches_jmg s _) (continueWipe_touches _)
  · exact Touches_mono (presentEngine_touches _ s)

theorem wipeHeaderEnded_touches (p : HeaderPurpose) (ok : Bool) (s : State) : Touches [.ckc, .jmg, .hbp, .mbp, .acu] s (wipeHeaderEnded p ok s) := by
  unfold wipeHeaderEnded; split
  · exact Touches_mono (continueWipe_touches s)
  · exact Touches_mono (requestHeader_touches _ _ s)
  · exact Touches_mono (enterState_touches _ s)
  · exact Touches_mono (requestHeader_touches _ _ s)

/-! ## Replay.lean -/

theorem setRpeStep_touches (st : RpeStep) (s : State) : Touches [.rpe] s (setRpeStep st s) := by
  intro b h; cases b <;> first | rfl | exact absurd (by decide) h

theorem idleRpe_touches (s : State) : Touches [.rpe] s (idleRpe s) := by
  intro b h; cases b <;> first | rfl | exact absurd (by decide) h

theorem loadUndo_touches (t : Nat) (src : Source) (s : State) : Touches [.rpe] s (loadUndo t src s) := by
  intro b h; cases b <;> first | rfl | exact absurd (by decide) h

theorem clearHalt_touches (s : State) : Touches [.rpe] s (clearHalt s) := by
  intro b h; cases b <;> first | rfl | exact absurd (by decide) h

theorem requestOpening_touches (s : State) : Touches [.jmg, .rpe, .mbp] s (requestOpening s) := by
  unfold requestOpening
  exact Touches_trans (setRpeStep_touches _ s) (requestHeader_touches _ _ _)

theorem popFrame_touches (s : State) : Touches [.ckc, .cpe, .rpe] s (popFrame s) := by
  unfold popFrame; split
  · exact Touches_self s
  · exact touches_ckc_cpe_rpe s _ _ _

theorem popEmptyLevels_touches (n : Nat) (s : State) :
    Touches [.ckc, .cpe, .rpe] s (popEmptyLevels n s) := by
  induction n generalizing s with
  | zero => exact Touches_self s
  | succ n ih =>
    unfold popEmptyLevels; split
    · split
      · exact Touches_trans (popFrame_touches s) (ih _)
      · exact Touches_self s
    · exact Touches_self s

theorem beginClosing_touches (s : State) : Touches [.jmg, .rpe, .mbp] s (beginClosing s) := by
  unfold beginClosing
  exact Touches_trans (setRpeStep_touches _ s) (requestHeader_touches _ _ _)

theorem beginSlotRead_touches (s : State) : Touches [.rpe, .mbp] s (beginSlotRead s) := by
  unfold beginSlotRead
  exact Touches_trans (touches_rpe s _) (presentEngine_touches _ _)

theorem beginRetarget_touches (s : State) : Touches [.jmg, .rpe, .mbp] s (beginRetarget s) := by
  unfold beginRetarget
  exact Touches_trans (setRpeStep_touches _ s) (requestHeader_touches _ _ _)

theorem walkOn_touches (s : State) : Touches [.ckc, .cpe, .jmg, .rpe, .mbp] s (walkOn s) := by
  unfold walkOn; dsimp only; split
  · exact Touches_trans (popEmptyLevels_touches _ s) (beginClosing_touches _)
  · exact Touches_trans (popEmptyLevels_touches _ s) (beginSlotRead_touches _)

theorem walkHead_touches (s : State) : Touches [.ckc, .cpe, .jmg, .rpe, .mbp] s (walkHead s) := by
  unfold walkHead; split
  · exact Touches_mono (beginRetarget_touches s)
  · exact walkOn_touches s

theorem haltReplay_touches (why : HaltReason) (item : HaltItem) (s : State) : Touches [.ckc, .rpe, .hbp, .mbp, .acu] s (haltReplay why item s) := by
  unfold haltReplay
  exact Touches_trans (Touches_trans (touches_rpe s _) (raise_touches _ _) (cs := [.rpe, .acu])) (enterState_touches _ _)

theorem beginRestore_touches (r : Record) (s : State) : Touches [.rpe, .mbp] s (beginRestore r s) := by
  unfold beginRestore
  exact Touches_trans (touches_rpe s _) (presentEngine_touches _ _)

theorem replaySlotReadEnded_touches (e : Ending) (s : State) : Touches [.ckc, .rpe, .hbp, .mbp, .acu] s (replaySlotReadEnded e s) := by
  unfold replaySlotReadEnded; split
  · dsimp only; split
    · exact Touches_mono (beginRestore_touches _ s)
    · exact haltReplay_touches _ _ s
  · exact haltReplay_touches _ _ s

theorem restoreEnded_touches (e : Ending) (s : State) : Touches [.ckc, .cpe, .jmg, .rpe, .hbp, .mbp, .acu] s (restoreEnded e s) := by
  unfold restoreEnded; split
  · exact Touches_self s
  · split
    · exact Touches_trans (Touches_trans (touches_jmg_rpe s _ _) (count_touches _ _ _) (cs := [.jmg, .rpe, .acu]))
        (walkHead_touches _)
    · exact Touches_mono (haltReplay_touches _ _ s)

theorem skipSlot_touches (s : State) : Touches [.jmg, .rpe] s (skipSlot s) := by
  intro b h; cases b <;> first | rfl | exact absurd (by decide) h

theorem retargetEnded_touches (ok : Bool) (s : State) : Touches [.ckc, .cpe, .jmg, .rpe, .hbp, .mbp, .acu] s (retargetEnded ok s) := by
  unfold retargetEnded; split
  · dsimp only; split
    · exact Touches_trans (Touches_trans (touches_rpe s _) (skipSlot_touches _) (cs := [.jmg, .rpe])) (walkHead_touches _)
    · exact Touches_trans (touches_rpe s _) (walkHead_touches _)
  · exact Touches_trans (setStale_touches s) (haltReplay_touches _ _ _)

theorem endUndo_touches (f : Option Frame) (o : CmdOutcome) (s : State) : Touches [.ckc, .rpe, .hbp, .mbp, .acu] s (endUndo f o s) := by
  unfold endUndo
  exact Touches_trans (Touches_trans (raiseIf_touches _ _ s) (idleRpe_touches _) (cs := [.rpe, .acu]))
    (completeCommand_touches _ _ _)

theorem closingEnded_touches (ok : Bool) (s : State) : Touches [.ckc, .cpe, .jmg, .rpe, .hbp, .mbp, .acu] s (closingEnded ok s) := by
  unfold closingEnded; dsimp only
  have h : Touches [.ckc, .cpe, .jmg, .rpe, .acu] s (popFrame (if ok then s else setStale s)) := by
    split
    · exact Touches_mono (popFrame_touches s)
    · exact Touches_trans (setStale_touches s) (popFrame_touches _)
  generalize popFrame (if ok then s else setStale s) = x at h ⊢
  split
  · exact Touches_trans h (walkHead_touches _)
  · exact Touches_trans h (endUndo_touches _ _ _)

theorem undoOpeningEnded_touches (ok : Bool) (s : State) : Touches [.ckc, .cpe, .jmg, .rpe, .hbp, .mbp, .acu] s (undoOpeningEnded ok s) := by
  unfold undoOpeningEnded; split
  · exact Touches_trans (Touches_trans (touches_rpe s _) (clearHalt_touches _) (cs := [.rpe])) (walkHead_touches _)
  · split
    · exact Touches_trans (touches_rpe s _) (haltReplay_touches _ _ _)
    · exact Touches_trans (touches_ckc_rpe s _ _) (endUndo_touches _ _ _)

theorem abandonEnded_touches (ok : Bool) (s : State) : Touches [.ckc, .cpe, .jmg, .rpe, .hbp, .mbp, .acu] s (abandonEnded ok s) := by
  unfold abandonEnded; split
  · exact Touches_trans (touches_ckc_cpe_jmg_rpe s _ _ _ _) (endUndo_touches _ _ _)
  · exact Touches_trans (setStale_touches s) (setRpeStep_touches _ _)

theorem syncEnded_touches (w : HeaderWrite) (ok : Bool) (s : State) : Touches [.rpe] s (syncEnded w ok s) := by
  unfold syncEnded; split
  · exact touches_rpe s _
  · exact Touches_self s

theorem retargetUndo_touches (s : State) : Touches [.rpe] s (retargetUndo s) := by
  unfold retargetUndo; split
  · exact Touches_self s
  · exact touches_rpe s _

theorem resumeReplay_touches (s : State) : Touches [.ckc, .cpe, .jmg, .rpe, .hbp, .mbp, .acu] s (resumeReplay s) := by
  unfold resumeReplay; dsimp only; split
  · exact Touches_trans (enterState_touches _ s) (requestOpening_touches _)
  · exact Touches_trans (enterState_touches _ s) (walkHead_touches _)

theorem skipReplay_touches (s : State) : Touches [.ckc, .cpe, .jmg, .rpe, .hbp, .mbp, .acu] s (skipReplay s) := by
  unfold skipReplay; dsimp only; split
  · exact Touches_trans (Touches_trans (enterState_touches _ s) (touches_rpe _ _) (cs := [.ckc, .rpe, .hbp, .mbp, .acu]))
      (beginRetarget_touches _)
  · exact Touches_trans (Touches_trans (enterState_touches _ s) (skipSlot_touches _)
      (cs := [.ckc, .jmg, .rpe, .hbp, .mbp, .acu])) (walkHead_touches _)

theorem abandonReplay_touches (s : State) : Touches [.jmg, .rpe, .mbp] s (abandonReplay s) := by
  unfold abandonReplay
  exact Touches_trans (setRpeStep_touches _ s) (requestHeader_touches _ _ _)

/-! ## Checkpoint.lean -/

theorem completeAtOnce_touches (e : QueueEntry) (o : CmdOutcome) (s : State) : Touches [.ckc, .hbp, .mbp, .acu] s (completeAtOnce e o s) := by
  unfold completeAtOnce; exact completeCommand_touches _ _ s

theorem enterService_touches (e : QueueEntry) (t : Nat) (s : State) : Touches [.ckc] s (enterService e t s) := by
  intro b h; cases b <;> first | rfl | exact absurd (by decide) h

theorem startMark_touches (e : QueueEntry) (tag : Word16) (s : State) : Touches [.ckc, .jmg, .hbp, .mbp, .acu] s (startMark e tag s) := by
  unfold startMark
  exact Touches_trans (Touches_trans (enterService_touches _ _ s) (enterState_touches _ _) (cs := [.ckc, .hbp, .mbp, .acu]))
    (requestHeader_touches _ _ _)

theorem startKeep_touches (e : QueueEntry) (s : State) : Touches [.ckc, .jmg, .hbp, .mbp, .acu] s (startKeep e s) := by
  unfold startKeep
  exact Touches_trans (Touches_trans (enterService_touches _ _ s) (enterState_touches _ _) (cs := [.ckc, .hbp, .mbp, .acu]))
    (requestHeader_touches _ _ _)

theorem startUndo_touches (c : InService) (s : State) : Touches [.ckc, .jmg, .rpe, .hbp, .mbp, .acu] s (startUndo c s) := by
  unfold startUndo
  exact Touches_trans (Touches_trans (Touches_trans (touches_ckc s _) (enterState_touches _ _) (cs := [.ckc, .hbp, .mbp, .acu]))
    (loadUndo_touches _ _ _) (cs := [.ckc, .rpe, .hbp, .mbp, .acu])) (requestOpening_touches _)

theorem takeOpen_touches (e : QueueEntry) (s : State) : Touches [.ckc, .jmg, .rpe, .hbp, .mbp, .acu] s (takeOpen e s) := by
  unfold takeOpen
  split
  · split
    · exact Touches_mono (completeAtOnce_touches _ _ s)
    · exact Touches_mono (startMark_touches _ _ s)
  · split
    · exact Touches_mono (completeAtOnce_touches _ _ s)
    · exact Touches_mono (startKeep_touches _ s)
  all_goals split
  all_goals first | exact startUndo_touches _ s | exact Touches_mono (completeAtOnce_touches _ _ s)

theorem takeEntry_touches (e : QueueEntry) (s : State) : Touches [.ckc, .jmg, .rpe, .hbp, .mbp, .acu] s (takeEntry e s) := by
  unfold takeEntry; split
  · exact Touches_mono (completeAtOnce_touches _ _ s)
  · exact Touches_mono (completeAtOnce_touches _ _ s)
  · exact takeOpen_touches e s

theorem takeCommand_touches (s : State) : Touches [.ckc, .jmg, .rpe, .hbp, .mbp, .acu] s (takeCommand s) := by
  unfold takeCommand; split
  · exact Touches_self s
  · split
    · exact Touches_trans (touches_ckc s _) (takeEntry_touches _ _)
    · exact Touches_self s

theorem actOnFault_touches (s : State) : Touches [.ckc, .jmg, .rpe, .hbp, .mbp, .acu] s (actOnFault s) := by
  unfold actOnFault; split
  · dsimp only; split
    · exact Touches_mono (touches_ckc s _)
    · exact Touches_trans (touches_ckc s _) (startUndo_touches _ _)
  · exact Touches_self s

theorem pushFrame_touches (f : Frame) (s : State) : Touches [.ckc] s (pushFrame f s) := by
  intro b h; cases b <;> first | rfl | exact absurd (by decide) h

theorem markEnded_touches (ok : Bool) (s : State) : Touches [.ckc, .hbp, .mbp, .acu] s (markEnded ok s) := by
  unfold markEnded; split
  · exact Touches_self s
  · dsimp only; split
    · exact Touches_trans (pushFrame_touches _ s) (completeCommand_touches _ _ _)
    · exact completeCommand_touches _ _ s

theorem mergeTop_touches (s : State) : Touches [.ckc, .cpe, .jmg] s (mergeTop s) := by
  unfold mergeTop; dsimp only; split
  · exact touches_ckc_cpe_jmg s _ _ _
  · exact Touches_mono (touches_ckc_cpe s _ _)

theorem keepEnded_touches (ok : Bool) (s : State) : Touches [.ckc, .cpe, .jmg, .hbp, .mbp, .acu] s (keepEnded ok s) := by
  unfold keepEnded; split
  · split
    · exact Touches_trans (mergeTop_touches s) (completeCommand_touches _ _ _)
    · exact Touches_mono (completeCommand_touches _ _ s)
  · exact Touches_self s

theorem headerConsequence_touches (w : HeaderWrite) (ok : Bool) (s : State) : Touches [.ckc, .cpe, .jmg, .rpe, .hbp, .mbp, .acu] s (headerConsequence w ok s) := by
  unfold headerConsequence
  split
  · exact Touches_mono (markEnded_touches ok s)
  · exact Touches_mono (keepEnded_touches ok s)
  · exact undoOpeningEnded_touches ok s
  · exact retargetEnded_touches ok s
  · exact closingEnded_touches ok s
  · exact abandonEnded_touches ok s
  · exact Touches_mono (syncEnded_touches w ok s)
  · exact Touches_mono (wipeHeaderEnded_touches _ ok s)
  · exact Touches_mono (wipeHeaderEnded_touches _ ok s)

theorem headerHalfEnded_touches (e : Ending) (s : State) : Touches [.ckc, .cpe, .jmg, .rpe, .hbp, .mbp, .acu] s (headerHalfEnded e s) := by
  unfold headerHalfEnded; split
  · exact Touches_self s
  · split
    · split
      · exact Touches_trans (Touches_trans (headerCompleted_touches _ s) (headerConsequence_touches _ _ _)
          (cs := [.ckc, .cpe, .jmg, .rpe, .hbp, .mbp, .acu])) (issueWaitingHeader_touches _)
      · exact Touches_mono (issueSecondHalf_touches _ s)
    · exact Touches_trans (Touches_trans (headerFailed_touches _ s) (headerConsequence_touches _ _ _)
        (cs := [.ckc, .cpe, .jmg, .rpe, .hbp, .mbp, .acu])) (issueWaitingHeader_touches _)

theorem syncHeader_touches (s : State) : Touches [.jmg, .mbp] s (syncHeader s) := by
  unfold syncHeader; exact requestHeader_touches _ _ s

theorem formatJournal_touches (s : State) : Touches [.ckc, .cpe, .jmg, .hbp, .mbp, .acu] s (formatJournal s) := by
  unfold formatJournal
  exact Touches_trans (Touches_trans (touches_ckc s _) (emptyCaptureSet_touches _) (cs := [.ckc, .cpe])) (beginWipe_touches _)

theorem beginRestart_touches (s : State) : Touches [.ckc, .mbp] s (beginRestart s) := by
  intro b h; cases b <;> first | rfl | exact absurd (by decide) h

/-! ## Startup.lean -/

theorem beginScan_touches (s : State) : Touches [.ckc, .jmg, .hbp, .mbp, .acu] s (beginScan s) := by
  unfold beginScan; split
  · exact Touches_mono (enterState_touches _ s)
  · exact Touches_trans (touches_jmg s _) (presentEngine_touches _ _)

theorem rebuildFrames_touches (h : Header) (s : State) : Touches [.ckc] s (rebuildFrames h s) := by
  intro b h; cases b <;> first | rfl | exact absurd (by decide) h

theorem startReplay_touches (h : Header) (s : State) : Touches [.ckc, .cpe, .jmg, .rpe, .hbp, .mbp, .acu] s (startReplay h s) := by
  unfold startReplay; dsimp only
  have h1 := Touches_trans (Touches_trans (enterState_touches .recover s) (loadUndo_touches h.fields.target .start _)
    (cs := [.ckc, .rpe, .hbp, .mbp, .acu])) (clearHalt_touches _) (cs := [.ckc, .rpe, .hbp, .mbp, .acu])
  split
  · exact Touches_trans h1 (walkHead_touches _)
  · exact Touches_trans h1 (requestOpening_touches _)

theorem endSlotScan_touches (i : Nat) (l : Option Nat) (h : Header) (s : State) : Touches [.ckc, .cpe, .jmg, .rpe, .hbp, .mbp, .acu] s (endSlotScan i l h s) := by
  unfold endSlotScan; dsimp only; split
  · exact Touches_trans (touches_jmg s _) (enterState_touches _ _)
  · exact Touches_trans (touches_jmg s _) (startReplay_touches _ _)

theorem examineSlot_touches (i : Nat) (l : Option Nat) (h : Header) (s : State) : Touches [.ckc, .cpe, .jmg, .rpe, .hbp, .mbp, .acu] s (examineSlot i l h s) := by
  unfold examineSlot; split
  · exact Touches_trans (touches_jmg s _) (presentEngine_touches _ _)
  · exact endSlotScan_touches i l h s

theorem scanSlotReadEnded_touches (e : Ending) (s : State) : Touches [.ckc, .cpe, .jmg, .rpe, .hbp, .mbp, .acu] s (scanSlotReadEnded e s) := by
  unfold scanSlotReadEnded; split
  · split
    · dsimp only; split
      · exact examineSlot_touches _ _ _ s
      · exact endSlotScan_touches _ _ _ s
    · exact Touches_mono (presentEngine_touches _ s)
  · exact Touches_self s

theorem setSerial_touches (n : Nat) (s : State) : Touches [.jmg] s (setSerial n s) := by
  intro b h; cases b <;> first | rfl | exact absurd (by decide) h

theorem followHeader_touches (h : Header) (s : State) : Touches [.ckc, .cpe, .jmg, .rpe, .hbp, .mbp, .acu] s (followHeader h s) := by
  unfold followHeader; split
  · exact Touches_trans (setSerial_touches _ s) (enterState_touches _ _)
  · split
    · exact Touches_trans (setSerial_touches _ s) (beginWipe_touches _)
    · exact Touches_trans (rebuildFrames_touches _ s) (examineSlot_touches _ _ _ _)
  · exact Touches_trans (rebuildFrames_touches _ s) (examineSlot_touches _ _ _ _)
  · exact Touches_trans (setSerial_touches _ s) (resumeWipe_touches _)

theorem followNoHeader_touches (s : State) : Touches [.ckc, .jmg, .hbp, .mbp, .acu] s (followNoHeader s) := by
  unfold followNoHeader; split
  · exact Touches_trans (setSerial_touches _ s) (beginWipe_touches _)
  · exact Touches_trans (setSerial_touches _ s) (enterState_touches _ _)

theorem selectHeader_touches (bs : List Byte) (s : State) : Touches [.ckc, .cpe, .jmg, .rpe, .hbp, .mbp, .acu] s (selectHeader bs s) := by
  unfold selectHeader; dsimp only; split
  · exact Touches_trans (touches_jmg s _) (followHeader_touches _ _)
  · exact Touches_trans (touches_jmg s _) (followNoHeader_touches _)

theorem scanHeaderReadEnded_touches (e : Ending) (s : State) : Touches [.ckc, .cpe, .jmg, .rpe, .hbp, .mbp, .acu] s (scanHeaderReadEnded e s) := by
  unfold scanHeaderReadEnded; split
  · split
    · dsimp only; split
      · exact Touches_trans (touches_jmg s _) (presentEngine_touches _ _)
      · exact selectHeader_touches _ s
    · exact Touches_mono (presentEngine_touches _ s)
  · exact Touches_self s

/-! ## StrobeTimer.lean -/

theorem startWake_touches (s : State) : Touches [.ckc] s (startWake s) := by
  unfold startWake; split
  · exact Touches_self s
  · exact touches_ckc s _

theorem consumeTag_touches (l : StrobeLine) (s : State) : Touches [.siu] s (consumeTag l s) := by
  unfold consumeTag; split
  · exact touches_siu s _
  · exact Touches_self s

theorem listWakeEntry_touches (e : WakeEntry) (s : State) : Touches [.siu, .acu] s (listWakeEntry e s) := by
  unfold listWakeEntry; split
  · exact Touches_mono (touches_siu s _)
  · exact Touches_trans (raise_touches _ s) (count_touches _ _ _)

theorem seeStrobe_touches (l : StrobeLine) (e : Edge) (s : State) : Touches [.ckc, .siu, .acu] s (seeStrobe l e s) := by
  unfold seeStrobe; split
  · exact Touches_self s
  · dsimp only; split
    · exact Touches_trans (Touches_trans (consumeTag_touches l s) (listWakeEntry_touches _ _) (cs := [.siu, .acu])) (startWake_touches _)
    · exact Touches_trans (consumeTag_touches l s) (strobeArrival_touches _ _)

theorem setFaultRequest_touches (s : State) : Touches [.ckc] s (setFaultRequest s) := by
  intro b h; cases b <;> first | rfl | exact absurd (by decide) h

theorem takeFault_touches (s : State) : Touches [.ckc, .rpe, .acu] s (takeFault s) := by
  unfold takeFault; dsimp only; split
  · exact Touches_mono (raise_touches _ s)
  · have h := Touches_trans (raise_touches .fault s) (discardQueue_touches _) (cs := [.ckc, .acu])
    split
    · exact Touches_mono (raise_touches _ s)
    · exact Touches_trans h (setFaultRequest_touches _)
    · exact Touches_trans h (retargetUndo_touches _)

theorem seeFault_touches (e : Edge) (s : State) : Touches [.ckc, .rpe, .siu, .acu] s (seeFault e s) := by
  unfold seeFault; split
  · exact Touches_self s
  · split
    · exact Touches_trans (Touches_trans (raise_touches _ s) (touches_siu _ _) (cs := [.siu, .acu])) (startWake_touches _)
    · exact Touches_mono (takeFault_touches s)

theorem arriveAll_touches (es : List WakeEntry) (s : State) : Touches [.ckc, .acu] s (arriveAll es s) := by
  induction es generalizing s with
  | nil => exact Touches_self s
  | cons e es ih => exact Touches_trans (strobeArrival_touches _ s) (ih _)

theorem arriveWakeList_touches (s : State) : Touches [.ckc, .siu, .acu] s (arriveWakeList s) := by
  unfold arriveWakeList
  exact Touches_trans (touches_siu s _) (arriveAll_touches _ _)

theorem takeWakeFault_touches (s : State) : Touches [.ckc, .rpe, .siu, .acu] s (takeWakeFault s) := by
  unfold takeWakeFault; split
  · exact Touches_trans (touches_siu s _) (takeFault_touches _)
  · exact Touches_self s

theorem timerArrival_touches (i : Nat) (id : Word16) (s : State) : Touches [.ckc, .atu] s (timerArrival i id s) := by
  unfold timerArrival; split
  · exact Touches_trans (touches_atu s _) (enqueue_touches _ _)
  · exact Touches_mono (touches_atu s _)

theorem owedArrival_touches (fr : List Nat) (i : Nat) (s : State) : Touches [.ckc, .atu] s (owedArrival fr i s) := by
  unfold owedArrival; split
  · exact Touches_mono (touches_atu s _)
  · split
    · exact timerArrival_touches _ _ s
    · split
      · exact Touches_self s
      · split
        · exact Touches_self s
        · exact Touches_mono (touches_atu s _)

theorem owedArrivals_touches (fr is : List Nat) (s : State) : Touches [.ckc, .atu] s (owedArrivals fr is s) := by
  induction is generalizing s with
  | nil => exact Touches_self s
  | cons i is ih => exact Touches_trans (owedArrival_touches fr i s) (ih _)

theorem ageFrames_touches (s : State) : Touches [.ckc, .acu] s (ageFrames s) := by
  unfold ageFrames
  exact Touches_trans (Touches_trans (touches_ckc s _) (raiseIf_touches _ _ _) (cs := [.ckc, .acu])) (raiseIf_touches _ _ _)

theorem tickEffect_touches (s : State) : Touches [.ckc, .atu, .acu] s (tickEffect s) := by
  unfold tickEffect; split
  · exact Touches_mono (touches_ckc s _)
  · exact Touches_trans (ageFrames_touches s) (owedArrivals_touches _ _ _)

theorem takeTick_touches (s : State) : Touches [.ckc, .atu, .acu] s (takeTick s) := by
  unfold takeTick; split
  · exact Touches_trans (touches_atu s _) (tickEffect_touches _)
  · exact Touches_self s

theorem timebasePeriod_touches (s : State) : Touches [.ckc, .atu, .acu] s (timebasePeriod s) := by
  unfold timebasePeriod; split
  · exact Touches_self s
  split
  · exact Touches_mono (touches_atu s _)
  split
  · exact Touches_mono (touches_atu s _)
  · exact takeTick_touches s

/-! ## Registers.lean -/

theorem setCmdResult_touches (r : CmdResult) (s : State) : Touches [.svp] s (setCmdResult r s) := by
  intro b h; cases b <;> first | rfl | exact absurd (by decide) h

theorem setStat_touches (r : SvcStat) (s : State) : Touches [.svp] s (setStat r s) := by
  intro b h; cases b <;> first | rfl | exact absurd (by decide) h

theorem setRegStat_touches (r : RegStat) (s : State) : Touches [.svp] s (setRegStat r s) := by
  intro b h; cases b <;> first | rfl | exact absurd (by decide) h

theorem stageRegion_touches (f : Region → Region) (s : State) : Touches [.svp] s (stageRegion f s) := by
  intro b h; cases b <;> first | rfl | exact absurd (by decide) h

theorem setRegion_touches (i : Nat) (r : Region) (s : State) : Touches [.hbp] s (setRegion i r s) := by
  intro b h; cases b <;> first | rfl | exact absurd (by decide) h

theorem clearCountsEffect_touches (s : State) : Touches [.hbp, .acu] s (clearCountsEffect s) := by
  intro b h; cases b <;> first | rfl | exact absurd (by decide) h

theorem popRefusalEffect_touches (s : State) : Touches [.hbp] s (popRefusalEffect s) := by
  intro b h; cases b <;> first | rfl | exact absurd (by decide) h

theorem enterDormant_touches (s : State) : Touches [.ckc] s (enterDormant s) := by
  intro b h; cases b <;> first | rfl | exact absurd (by decide) h

theorem issueCommand_touches (c : CmdCode) (s : State) : Touches [.ckc, .cpe, .jmg, .rpe, .hbp, .mbp, .acu, .svp] s (issueCommand s c) := by
  have im : ∀ (b : Bool) (f : State → State), (∀ x, Touches [.ckc, .cpe, .jmg, .rpe, .hbp, .mbp, .acu, .svp] x (f x)) →
      Touches [.ckc, .cpe, .jmg, .rpe, .hbp, .mbp, .acu, .svp] s (immediate b f s) := by
    intro b f hf
    unfold immediate; split
    · exact Touches_trans (setCmdResult_touches _ s) (hf _)
    · exact Touches_mono (setCmdResult_touches _ s)
  cases c
  case mark => exact Touches_mono (serviceArrival_touches _ s)
  case keep => exact Touches_mono (serviceArrival_touches _ s)
  case undo => exact Touches_mono (serviceArrival_touches _ s)
  case undoAll => exact Touches_mono (serviceArrival_touches _ s)
  case undoTo => exact Touches_mono (serviceArrival_touches _ s)
  case resume => exact im _ _ fun x => Touches_mono (resumeReplay_touches x)
  case skip => exact im _ _ fun x => Touches_mono (skipReplay_touches x)
  case abandon => exact im _ _ fun x => Touches_mono (abandonReplay_touches x)
  case sync => exact im _ _ fun x => Touches_mono (syncHeader_touches x)
  case format => exact im _ _ fun x => Touches_mono (formatJournal_touches x)
  case quiesce => exact im _ _ fun x => Touches_mono (enterDormant_touches x)
  case restart => exact im _ _ fun x => Touches_mono (beginRestart_touches x)
  case flush => exact im _ _ fun x => Touches_mono (discardQueue_touches x)
  case clearCounts => exact im _ _ fun x => Touches_mono (clearCountsEffect_touches x)
  case popRefusal => exact im _ _ fun x => Touches_mono (popRefusalEffect_touches x)

theorem writeCmd_touches (b : Byte) (s : State) : Touches [.ckc, .cpe, .jmg, .rpe, .hbp, .mbp, .acu, .svp] s (writeCmd b s) := by
  unfold writeCmd; split
  · exact Touches_trans (setStat_touches _ s) (issueCommand_touches _ _)
  · exact Touches_trans (setStat_touches _ s) (setCmdResult_touches _ _)

theorem commitRegion_touches (s : State) : Touches [.hbp, .svp] s (commitRegion s) := by
  unfold commitRegion; dsimp only; split
  · exact Touches_mono (setRegStat_touches _ s)
  split
  · exact Touches_trans (setRegion_touches _ _ s) (setRegStat_touches _ _)
  split
  · exact Touches_trans (setRegion_touches _ _ s) (setRegStat_touches _ _)
  · exact Touches_mono (setRegStat_touches _ s)

theorem beginSlotLoad_touches (s : State) : Touches [.mbp, .svp] s (beginSlotLoad s) := by
  unfold beginSlotLoad
  exact Touches_trans (touches_svp s _) (present_touches _ _)

theorem writeSlotload_touches (s : State) : Touches [.mbp, .svp] s (writeSlotload s) := by
  unfold writeSlotload; split
  · exact Touches_mono (touches_svp s _)
  · exact beginSlotLoad_touches s

theorem takeValue_touches (r : Reg) (v : Nat) (s : State) : Touches [.ckc, .cpe, .jmg, .rpe, .hbp, .siu, .atu, .mbp, .acu, .svp] s (takeValue r v s) := by
  have ju : ∀ (l : Bool) (f : State → State), (∀ x, Touches [.ckc, .cpe, .jmg, .rpe, .hbp, .siu, .atu, .mbp, .acu, .svp] x (f x)) →
      Touches [.ckc, .cpe, .jmg, .rpe, .hbp, .siu, .atu, .mbp, .acu, .svp] s (judged l f s) := by
    intro l f hf
    unfold judged; split
    · exact Touches_trans (setStat_touches _ s) (hf _)
    · exact Touches_mono (setStat_touches _ s)
  cases r <;> unfold takeValue <;> dsimp only
  all_goals first
    | exact Touches_mono (setStat_touches _ s)
    | exact Touches_mono (writeCmd_touches _ s)
    | exact ju _ _ fun x => Touches_mono (touches_svp x _)
    | exact ju _ _ fun x => Touches_mono (touches_jmg x _)
    | exact ju _ _ fun x => Touches_mono (touches_siu x _)
    | exact ju _ _ fun x => Touches_mono (touches_atu x _)
    | exact ju _ _ fun x => Touches_mono (touches_mbp x _)
    | exact ju _ _ fun x => Touches_mono (touches_acu x _)
    | exact ju _ _ fun x => Touches_mono (stageRegion_touches _ x)
    | exact ju _ _ fun x => Touches_mono (commitRegion_touches x)
    | exact ju _ _ fun x => Touches_mono (writeSlotload_touches x)

/-! ## ServicePort.lean -/

theorem advanceIndex_touches (s : State) : Touches [.svp] s (advanceIndex s) := by
  intro b h; cases b <;> first | rfl | exact absurd (by decide) h

theorem stageByte_touches (r : Reg) (k : Nat) (v : Byte) (s : State) : Touches [.svp] s (stageByte r k v s) := by
  intro b h; cases b <;> first | rfl | exact absurd (by decide) h

theorem writeRegByte_touches (r : Reg) (n k : Nat) (b : Byte) (s : State) : Touches [.ckc, .cpe, .jmg, .rpe, .hbp, .siu, .atu, .mbp, .acu, .svp] s (writeRegByte r n k b s) := by
  unfold writeRegByte; split
  · exact Touches_mono (setStat_touches _ s)
  split
  · exact Touches_mono (stageByte_touches _ _ _ s)
  · exact Touches_trans (touches_svp s _) (takeValue_touches _ _ _)

theorem writeAtIndex_touches (b : Byte) (s : State) : Touches [.ckc, .cpe, .jmg, .rpe, .hbp, .siu, .atu, .mbp, .acu, .svp] s (writeAtIndex b s) := by
  unfold writeAtIndex; split
  · exact Touches_self s
  · split
    · exact Touches_mono (setStat_touches _ s)
    · exact writeRegByte_touches _ _ _ _ s

theorem writeAndAdvance_touches (b : Byte) (s : State) : Touches [.ckc, .cpe, .jmg, .rpe, .hbp, .siu, .atu, .mbp, .acu, .svp] s (writeAndAdvance b s) := by
  unfold writeAndAdvance
  exact Touches_trans (writeAtIndex_touches b s) (advanceIndex_touches _)

theorem setAck_touches (a : Bool) (s : State) : Touches [.svp] s (setAck a s) := by
  intro b h; cases b <;> first | rfl | exact absurd (by decide) h

theorem dataByte_touches (b : Byte) (s : State) : Touches [.ckc, .cpe, .jmg, .rpe, .hbp, .siu, .atu, .mbp, .acu, .svp] s (dataByte b s) := by
  unfold dataByte; split
  · split
    · exact Touches_trans (Touches_trans (setAck_touches _ s) (startWake_touches _) (cs := [.ckc, .svp])) (touches_svp _ _)
    · exact Touches_trans (setAck_touches _ s) (writeAndAdvance_touches b _)
  · exact Touches_self s

theorem dataByteAt_touches (rs : List Reg) (b : Byte) (s : State) : Touches [.ckc, .cpe, .jmg, .rpe, .hbp, .siu, .atu, .mbp, .acu, .svp] s (dataByteAt rs b s) := by
  unfold dataByteAt; split
  · exact dataByte_touches b s
  · exact Touches_self s

theorem addressByte_touches (a : BitVec 7) (d : Dir) (s : State) : Touches [.ckc, .svp] s (addressByte a d s) := by
  unfold addressByte; split
  · exact Touches_self s
  split
  · dsimp only; split
    · exact Touches_trans (Touches_trans (touches_svp s _) (startWake_touches _) (cs := [.ckc, .svp])) (touches_svp _ _)
    · exact Touches_mono (touches_svp s _)
  · exact Touches_mono (touches_svp s _)

theorem indexByte_touches (b : Byte) (s : State) : Touches [.svp] s (indexByte b s) := by
  unfold indexByte; split
  · exact touches_svp s _
  · exact Touches_self s

theorem stopCondition_touches (s : State) : Touches [.svp] s (stopCondition s) := by
  unfold stopCondition; split
  · exact touches_svp s _
  · exact Touches_self s

theorem takeSnapshot_touches (r : Reg) (s : State) : Touches [.svp] s (takeSnapshot r s) := by
  intro b h; cases b <;> first | rfl | exact absurd (by decide) h

theorem snapshotAtIndex_touches (s : State) : Touches [.svp] s (snapshotAtIndex s) := by
  unfold snapshotAtIndex; split
  · exact Touches_self s
  · split
    · exact takeSnapshot_touches _ s
    · exact Touches_self s

theorem sendByte_touches (a : Bool) (s : State) : Touches [.svp] s (sendByte a s) := by
  unfold sendByte
  exact Touches_trans (Touches_trans (snapshotAtIndex_touches s) (touches_svp _ _) (cs := [.svp])) (advanceIndex_touches _)

theorem readByte_touches (a : Bool) (s : State) : Touches [.svp] s (readByte a s) := by
  unfold readByte; split
  · split
    · exact touches_svp s _
    · exact sendByte_touches a s
  · exact Touches_self s

theorem releaseLoadStall_touches (s : State) : Touches [.mbp, .svp] s (releaseLoadStall s) := by
  unfold releaseLoadStall; split
  · exact Touches_trans (touches_svp s _) (sendByte_touches _ _)
  · exact Touches_trans (touches_svp s _) (beginSlotLoad_touches _)
  · exact Touches_self s

theorem slotLoadEnded_touches (e : Ending) (s : State) : Touches [.mbp, .svp] s (slotLoadEnded e s) := by
  unfold slotLoadEnded; split
  · exact Touches_self s
  · exact Touches_trans (touches_svp s _) (releaseLoadStall_touches _)

theorem releaseWakeStall_touches (s : State) : Touches [.ckc, .cpe, .jmg, .rpe, .hbp, .siu, .atu, .mbp, .acu, .svp] s (releaseWakeStall s) := by
  unfold releaseWakeStall; split
  · exact Touches_mono (touches_svp s _)
  · exact Touches_trans (touches_svp s _) (writeAndAdvance_touches _ _)
  · exact Touches_self s

theorem handleWakeEvent_touches (e : WakeEvent) (s : State) : Touches [.ckc, .cpe, .jmg, .rpe, .hbp, .siu, .atu, .mbp, .acu, .svp] s (handleWakeEvent e s) := by
  unfold handleWakeEvent; split
  · exact Touches_trans (rejudge_touches s) (tryGate_touches _)
  · exact Touches_mono (arriveWakeList_touches s)
  · exact Touches_mono (takeWakeFault_touches s)
  · exact releaseWakeStall_touches s

theorem handleWakeEvents_touches (es : List WakeEvent) (s : State) :
    Touches [.ckc, .cpe, .jmg, .rpe, .hbp, .siu, .atu, .mbp, .acu, .svp] s (handleWakeEvents es s) := by
  induction es generalizing s with
  | nil => exact Touches_self s
  | cons e es ih => exact Touches_trans (handleWakeEvent_touches e s) (ih _)

theorem endWake_touches (o : List WakeEvent) (s : State) : Touches [.ckc, .cpe, .jmg, .rpe, .hbp, .siu, .atu, .mbp, .acu, .svp] s (endWake o s) := by
  unfold endWake; split
  · exact Touches_trans (touches_ckc s _) (handleWakeEvents_touches _ _)
  · exact Touches_self s

/-! ## MemoryBus.lean and HostCommands.lean -/

theorem grant_touches (s : State) : Touches [.mbp] s (grant s) := by
  unfold grant; split
  · split
    · split
      · exact touches_mbp s _
      · exact Touches_self s
    · exact Touches_self s
  · exact Touches_self s

theorem endingConsequence_touches (p : Purpose) (e : Ending) (s : State) : Touches [.ckc, .cpe, .jmg, .rpe, .hbp, .mbp, .acu, .svp] s (endingConsequence p e s) := by
  unfold endingConsequence
  split
  · exact Touches_mono (passThroughEnded_touches e s)
  · exact Touches_mono (preImageReadEnded_touches e s)
  · exact Touches_mono (appendEnded_touches e s)
  · exact Touches_mono (captureWriteEnded_touches e s)
  · exact Touches_mono (headerHalfEnded_touches e s)
  · exact Touches_mono (scanHeaderReadEnded_touches e s)
  · exact Touches_mono (scanSlotReadEnded_touches e s)
  · exact Touches_mono (replaySlotReadEnded_touches e s)
  · exact Touches_mono (restoreEnded_touches e s)
  · exact Touches_mono (wipeSlotWriteEnded_touches e s)
  · exact Touches_mono (slotLoadEnded_touches e s)

theorem memoryAnswers_touches (p : Purpose) (e : Ending) (s : State) : Touches [.ckc, .cpe, .jmg, .rpe, .hbp, .mbp, .acu, .svp] s (memoryAnswers p e s) := by
  unfold memoryAnswers; split
  · exact Touches_trans (endTransaction_touches e s) (endingConsequence_touches _ _ _)
  · exact Touches_self s

theorem watchExpires_touches (s : State) : Touches [.ckc, .cpe, .jmg, .rpe, .hbp, .mbp, .acu, .svp] s (watchExpires s) := by
  unfold watchExpires; split
  · exact Touches_trans (endTransaction_touches _ s) (endingConsequence_touches _ _ _)
  · exact Touches_self s

theorem freeBus_touches (s : State) : Touches [.mbp] s (freeBus s) := by
  intro b h; cases b <;> first | rfl | exact absurd (by decide) h

theorem endDrain_touches (s : State) : Touches [.mbp] s (endDrain s) := by
  unfold endDrain; split
  · exact freeBus_touches s
  · exact Touches_self s

theorem endSettle_touches (s : State) : Touches [.mbp] s (endSettle s) := by
  unfold endSettle; split
  · exact freeBus_touches s
  · exact Touches_self s

theorem lateAnswer_touches (s : State) : Touches [.mbp] s (lateAnswer s) := by
  unfold lateAnswer; split
  · exact endDrain_touches s
  · exact Touches_self s

theorem watchReached_touches (s : State) : Touches [.ckc, .cpe, .jmg, .rpe, .hbp, .mbp, .acu, .svp] s (watchReached s) := by
  unfold watchReached; split
  · exact watchExpires_touches s
  · exact Touches_mono (endDrain_touches s)
  · exact Touches_mono (endSettle_touches s)
  · exact Touches_self s

theorem watchPeriod_touches (s : State) : Touches [.ckc, .cpe, .jmg, .rpe, .hbp, .mbp, .acu, .svp] s (watchPeriod s) := by
  unfold watchPeriod; split
  · exact Touches_self s
  split
  · exact Touches_mono (touches_mbp s _)
  · dsimp only; split
    · exact Touches_trans (touches_mbp s _) (watchReached_touches _)
    · exact Touches_mono (touches_mbp s _)

theorem wakePeriod_touches (s : State) : Touches [.ckc, .cpe, .jmg, .rpe, .hbp, .siu, .atu, .mbp, .acu, .svp] s (wakePeriod s) := by
  unfold wakePeriod; split
  · exact Touches_self s
  split
  · exact Touches_mono (touches_ckc s _)
  · exact endWake_touches _ s

theorem refclkPeriod_touches (s : State) : Touches [.ckc, .cpe, .jmg, .rpe, .hbp, .siu, .atu, .mbp, .acu, .svp] s (refclkPeriod s) := by
  unfold refclkPeriod
  exact Touches_trans (Touches_trans (timebasePeriod_touches s) (wakePeriod_touches _)
    (cs := [.ckc, .cpe, .jmg, .rpe, .hbp, .siu, .atu, .mbp, .acu, .svp])) (watchPeriod_touches _)

theorem presentTxn_touches (t : HostTxn) (s : State) : Touches [.ckc, .hbp, .mbp, .acu] s (presentTxn t s) := by
  unfold presentTxn; split
  · exact Touches_self s
  · dsimp only; split
    · exact Touches_trans (touches_hbp s _) (startWake_touches _)
    · exact Touches_trans (touches_hbp s _) (rejudge_touches _)

end Sys2Proof.Laws
end

