-- ==== Sys2Proof/Laws/Ops.lean ====
section
/-! SUPPORT. What the shared operations do, said once: the equations that a proof about a command cites instead of
unfolding the operation. Which blocks each operation leaves alone stands in Laws/Frame.lean. -/

namespace Sys2Proof.Laws

set_option Elab.async false

open Sys2Proof.Machine Sys2Proof.Safety

/-! ## Counters and the stack -/

theorem depth_eq_zero (s : State) : depth s = 0 ↔ s.ckc.frames = [] := by simp [depth]

theorem satAdd_zero (c : BitVec 32) : satAdd c 0 = c := by simp [satAdd, c.isLt]

/-- Two increases one after the other are one increase (R180). -/
theorem satAdd_one_then (c : BitVec 32) (n : Nat) : satAdd (satAdd c 1) n = satAdd c (n + 1) := by
  unfold satAdd
  have := c.isLt
  by_cases h : c.toNat + 1 < 2 ^ 32
  · simp only [h, if_true, BitVec.toNat_ofNat, Nat.mod_eq_of_lt h]
    rw [show c.toNat + 1 + n = c.toNat + (n + 1) by omega]
  · have past : ¬ (c.toNat + (n + 1) < 2 ^ 32) := by omega
    simp only [h, past, if_false]
    by_cases full : (BitVec.allOnes 32).toNat + n < 2 ^ 32
    · have top : (BitVec.allOnes 32).toNat = 2 ^ 32 - 1 := by decide
      have : n = 0 := by omega
      subst this
      rfl
    · simp only [full, if_false]

/-! ## The host port -/

/-- A refusal does not depend on the disposition or the answer that it replaces (R125). -/
theorem refuseTxn_of_current (t : HostTxn) (why : Reason) (s : State) (c : Option Current) (a : HostAnswer) :
    refuseTxn t why { s with hbp := { s.hbp with current := c, answer := a } } = refuseTxn t why s := by
  by_cases h : s.hbp.refusals.length < 8 <;> simp [refuseTxn, enterRefusal, h]

/-- The request that stands for a host transaction waits under HOST (R121). -/
theorem present_mirrorRequest (t : HostTxn) (s : State) :
    present (mirrorRequest t) s = { s with mbp := { s.mbp with waitHost := some (mirrorRequest t) } } := by
  cases h : t.dir <;> simp [mirrorRequest, h, present, hostRead, hostWrite]

/-- A transaction taken at once that passes the checks is disposed of by the class of its address (R110, R112). -/
theorem hostRequest_taken (s : State) (t : HostTxn) (h : TakesAtOnce s) (hf : firstFailedCheck s t = none) :
    exec (.hostRequest t) s = .next
      (let attrs := lookupRegion s.hbp.regions t.addr
       let c : Current := ⟨t, .held, attrs.1, attrs.2⟩
       let u := { s with hbp := { s.hbp with current := some c, answer := .noneYet } }
       if isEmptyWrite t then disposeEmptyWrite c u else dispose c u) := by
  obtain ⟨h1, h2, h3, h4, h5, h6⟩ := h
  obtain ⟨shown, def_⟩ : ∃ u : State, u =
      { s with hbp := { s.hbp with current := some ⟨t, .untaken, .pass, .refuse⟩, answer := .noneYet } } := ⟨_, rfl⟩
  have presented : exec (.hostRequest t) s = .next (rejudge shown) := by
    unfold exec execHostRequest presentTxn
    rw [h1]
    simp [h6, def_]
  have takes : canTake shown = true := by simp [def_, canTake, h2, h3, h4, h5, h6]
  have passes : firstFailedCheck shown t = none := by rw [def_]; exact hf
  rw [presented]
  subst def_
  unfold rejudge
  simp only [takes, takeTxn, passes, if_true]

@[simp] theorem rejudge_straps (s : State) : (rejudge s).straps = s.straps := rejudge_touches s .straps (by decide)
@[simp] theorem rejudge_ckc (s : State) : (rejudge s).ckc = s.ckc := rejudge_touches s .ckc (by decide)
@[simp] theorem rejudge_cpe (s : State) : (rejudge s).cpe = s.cpe := rejudge_touches s .cpe (by decide)
@[simp] theorem rejudge_jmg (s : State) : (rejudge s).jmg = s.jmg := rejudge_touches s .jmg (by decide)
@[simp] theorem rejudge_rpe (s : State) : (rejudge s).rpe = s.rpe := rejudge_touches s .rpe (by decide)

/-! ## The controller -/

/-- Outside a start-up, entering a state writes it and judges the current transaction again (R119). -/
theorem enterState_outside_startUp (st : CtrlState) (s : State) (h : s.ckc.startUp = false) :
    enterState st s = rejudge { s with ckc := { s.ckc with state := st } } := by
  simp [enterState, h]

/-- Recording an outcome writes the last outcome record and REJECT alone, and neither while a restart is pending (R22,
R25, R89). -/
theorem recordOutcome_eq (o : LastOutcome) (s : State) :
    recordOutcome o s =
      { s with
        ckc := { s.ckc with last := if s.ckc.restartPending = true then s.ckc.last else o }
        acu :=
          { s.acu with
            flags :=
              if s.ckc.restartPending = false ∧ CmdOutcome.rejects o.outcome = true then s.acu.flags ||| 0x2000
              else s.acu.flags } } := by
  unfold recordOutcome raiseIf
  cases s.ckc.restartPending <;> cases h : CmdOutcome.rejects o.outcome <;> simp [raise, Flag.bit, Flag.number]

theorem canTakeCommand_of_mayTake (s : State) (h : MayTake s) : canTakeCommand s = true := by
  obtain ⟨h1, h2, h3, h4, h5⟩ := h
  rcases h5 with h5 | h5 | ⟨h5 | h5, h6⟩ <;> simp [canTakeCommand, faultRequestWaits, takesCommands, *]

/-! ## Formats -/

/-- A field is the sum of its bytes, least significant first; a byte past the end counts 0 (R198, R199). -/
theorem fieldAt_eq_sum (bs : List Byte) (i n : Nat) :
    fieldAt bs i n = ((List.range n).map fun k => (bs.getD (i + k) 0).toNat * 256 ^ k).sum := by
  have step : ∀ (n : Nat) (l : List Byte),
      ofLittleEndian (l.take n) = ((List.range n).map fun k => (l.getD k 0).toNat * 256 ^ k).sum := by
    intro n
    induction n with
    | zero => intro l; rfl
    | succ n ih =>
      intro l
      cases l with
      | nil => simp [ofLittleEndian]
      | cons b bs =>
        rw [List.take_succ_cons, ofLittleEndian, ih, List.range_succ_eq_map, List.map_cons, List.map_map,
          List.sum_cons, ← List.sum_map_mul_left]
        simp only [List.getD_cons_zero, pow_zero, mul_one]
        congr 3
        funext k
        simp [pow_succ]
        ring
  rw [fieldAt, slice, step]
  congr 2
  funext k
  simp [List.getD_eq_getElem?_getD, List.getElem?_drop]

/-- Starts rise from `low` to `top` when the first is at least `low`, none passes `top`, and none is below the one
before it (R60, test 7). -/
theorem startsRise_iff (top low : Nat) (es : List LevelEntry) :
    startsRise top low es = true ↔
      (∀ e, es[0]? = some e → low ≤ e.start) ∧ (∀ e ∈ es, e.start ≤ top)
        ∧ ∀ l e e', es[l]? = some e → es[l + 1]? = some e' → e.start ≤ e'.start := by
  induction es generalizing low with
  | nil => simp [startsRise]
  | cons a as ih =>
    simp only [startsRise, Bool.and_eq_true, decide_eq_true_eq, ih]
    constructor
    · rintro ⟨⟨h1, h2⟩, h3, h4, h5⟩
      refine ⟨by simpa using h1, by simpa [h2] using h4, ?_⟩
      intro l e e' hl hl'
      cases l with
      | zero =>
        obtain rfl : a = e := by simpa using hl
        exact h3 _ (by simpa using hl')
      | succ l => exact h5 l e e' (by simpa using hl) (by simpa using hl')
    · rintro ⟨h1, h2, h3⟩
      have h1 := h1 a rfl
      refine ⟨⟨h1, h2 a (by simp)⟩, fun e he => h3 0 a e rfl (by simpa using he),
        fun e he => h2 e (by simp [he]), fun l e e' hl hl' => h3 (l + 1) e e' (by simpa using hl) (by simpa using hl')⟩

/-! ## The capture set -/

/-- Entering entries writes the capture set and UNTRACKED alone (R27, R30). -/
theorem insertEntries_frame (l : Nat) (cells : List Addr) (s : State) :
    ∃ set un, insertEntries l cells s =
      { s with
        cpe := { s.cpe with captureSet := set }
        acu := { s.acu with counters := { s.acu.counters with untracked := un } } } := by
  induction cells generalizing s with
  | nil => exact ⟨_, _, rfl⟩
  | cons a as ih =>
    simp only [insertEntries, insertEntry]
    split
    · exact ih s
    · split
      · obtain ⟨set, un, h⟩ := ih { s with cpe := { s.cpe with captureSet := s.cpe.captureSet ++ [⟨a, l⟩] } }
        rw [h]
        exact ⟨_, _, rfl⟩
      · obtain ⟨set, un, h⟩ := ih (count .untracked 1 s)
        rw [h]
        exact ⟨_, _, rfl⟩

/-- Raising a flag and entering entries may change places. -/
theorem insertEntries_raise (l : Nat) (cells : List Addr) (s : State) (f : Flag) :
    insertEntries l cells (raise f s) = raise f (insertEntries l cells s) := by
  induction cells generalizing s with
  | nil => rfl
  | cons a as ih =>
    simp only [insertEntries]
    rw [← ih]
    congr 1
    simp only [insertEntry]
    show (if s.cpe.captureSet.contains ⟨a, l⟩ then _ else if s.cpe.captureSet.length < _ then _ else _) = _
    split
    · rfl
    · split <;> rfl

/-! ## Header writes -/

theorem issueWaitingHeader_none (s : State) (h : s.jmg.headerWaiting = none) : issueWaitingHeader s = s := by
  simp [issueWaitingHeader, h]

/-- With no header write in flight, a request for one leaves none waiting (R61). -/
theorem requestHeader_leaves_none_waiting (p : HeaderPurpose) (f : HeaderFields) (s : State)
    (h : s.jmg.headerWaiting = none) (hw : s.jmg.headerWrite = none) :
    (requestHeader p f s).jmg.headerWaiting = none := by
  unfold requestHeader
  split
  · exact h
  · simp only [hw, Option.isSome_none, Bool.false_eq_true, if_false, issueHeader]
    simp [present, headerHalfRequest, engineWrite]

/-- The walk head leaves no header write waiting where none was (R73). -/
theorem walkHead_leaves_none_waiting (s : State) (h : s.jmg.headerWaiting = none) (hw : s.jmg.headerWrite = none) :
    (walkHead s).jmg.headerWaiting = none := by
  have pop : ∀ n u, (popEmptyLevels n u).jmg = u.jmg := fun n u => popEmptyLevels_touches n u .jmg (by decide)
  have pre : ∀ r u, (presentEngine r u).jmg = u.jmg := fun r u => presentEngine_touches r u .jmg (by decide)
  unfold walkHead
  split
  · exact requestHeader_leaves_none_waiting _ _ _ h hw
  · unfold walkOn
    simp only
    split
    · exact requestHeader_leaves_none_waiting _ _ _ (by simp [setRpeStep, pop, h]) (by simp [setRpeStep, pop, hw])
    · simp [beginSlotRead, pre, pop, h]

/-- A mark reads as it was put, and the other copy's as before. -/
@[simp] theorem copyMarks_has_put_self (m : CopyMarks) (c : Copy) (v : Bool) : (m.put c v).has c = v := by
  cases c <;> rfl
@[simp] theorem copyMarks_has_put_other (m : CopyMarks) (c : Copy) (v : Bool) :
    (m.put c v).has (Copy.other c) = m.has (Copy.other c) := by
  cases c <;> rfl

/-- The marks after one of them is put, spelled out. -/
theorem copyMarks_put_eq (m : CopyMarks) (c : Copy) (v : Bool) :
    m.put c v = if c = .a then ⟨v, m.b⟩ else ⟨m.a, v⟩ := by
  cases c <;> rfl

/-- SCAN takes a copy that the last header write failed on as not valid, whatever its bytes (R61). -/
theorem scannedHeader_headerFailed (w : HeaderWrite) (s : State) (bs : List Byte) :
    scannedHeader (headerFailed w s) w.copy bs = none := by
  simp [scannedHeader, headerFailed]

/-- The second half of a header write that completes carries out what the write was for (R61, R62). -/
theorem headerHalf_second_done (s : State) (w : HeaderWrite) (p : HeaderPurpose) (h : SecondHalf p w s) :
    exec (.headerHalfWriteEnd .done) s = .next
      (issueWaitingHeader (headerConsequence w true { s with mbp := answered s.mbp, jmg := headerDone w s.jmg })) := by
  obtain ⟨h1, h2, h3, h4, h5⟩ := h
  obtain ⟨x, hx, hp⟩ := (Option.map_eq_some_iff (f := fun x : MemTxn => x.request.purpose)).mp h1
  simp [exec, execHeaderHalfWriteEnd, memoryAnswers, outstandingIs, hx, hp, endingConsequence, WriteEnding.ending,
    headerHalfEnded, endTransaction, h2, h4, Ending.isDone, headerCompleted, headerDone, answered,
    copyMarks_put_eq]

/-- A half of a header write that fails fails the write (R61, R166). -/
theorem headerHalf_error (s : State) (w : HeaderWrite) (p : HeaderPurpose) (h : EitherHalf p w s) :
    exec (.headerHalfWriteEnd .error) s = .next
      (issueWaitingHeader (headerConsequence w false
        (raise .memerr { s with mbp := answered s.mbp, jmg := headerLost w s.jmg }))) := by
  obtain ⟨h1, h2, h3, h5⟩ := h
  obtain ⟨x, hx, hp⟩ := (Option.map_eq_some_iff (f := fun x : MemTxn => x.request.purpose)).mp h1
  simp [exec, execHeaderHalfWriteEnd, memoryAnswers, outstandingIs, hx, hp, endingConsequence, WriteEnding.ending,
    headerHalfEnded, endTransaction, h2, Ending.isDone, headerFailed, headerLost, answered, raise,
    copyMarks_put_eq]

/-! ## Data bytes -/

theorem currentRow_of_writesAt (s : State) (p : BitVec 2) (x : BitVec 6) (row : RegRow) (h : WritesAt p x s)
    (hr : rowAt p.toNat x.toNat = some row) : currentRow s = some row := by
  obtain ⟨_, _, hp, hi⟩ := h
  simp [currentRow, hp, hi, hr]

/-- A data byte that is heard outside DORMANT is acknowledged and written at the index (R184, R185). -/
theorem dataByte_heard (s : State) (b : Byte) (h : Hears s) (hw : s.svp.segment = .writing) :
    dataByte b s = writeAndAdvance b (setAck true s) := by
  obtain ⟨h1, h2, h3⟩ := h
  simp [dataByte, busHeard, h1, h2, h3, hw]

theorem judged_eq (c : Bool) (f : State → State) (s : State) :
    judged c f s = if c = true then f (setStat .ok s) else setStat .badValue s := rfl

variable {q : Option Nat}

/-- The one byte of a register of one byte is its value (R187, R189). -/
theorem dataByteAt_one (s : State) (b : Byte) (p : BitVec 2) (x : BitVec 6) (rs : List Reg) (r : Reg)
    (h : WritesAt p x s) (hrow : rowAt p.toNat x.toNat = some ⟨q, x.toNat, r, 1⟩) (hm : rs.contains r = true)
    (hw : isWritable r = true) :
    dataByteAt rs b s = advanceIndex (takeValue r b.toNat
      { s with svp := { s.svp with ack := true, staging := unstage r s.svp.staging } }) := by
  have row := currentRow_of_writesAt s p x _ h hrow
  have row' : currentRow (setAck true s) = currentRow s := rfl
  have idx : (setAck true s).svp.index = .index x := h.2.2.2
  have off : currentOffset (setAck true s) ⟨q, x.toNat, r, 1⟩ = 0 := by simp only [currentOffset, idx]; simp
  simp only [dataByteAt, reaches, currentReg, row, Option.map_some, hm, if_true]
  rw [dataByte_heard s b h.1 h.2.1]
  simp only [writeAndAdvance, writeAtIndex, idx, row', row, writeRegByte, hw, off]
  simp [formedValue, ofLittleEndian, setAck, h.2.2.2]

/-- A byte of a register of several, below the highest, is staged (R187). -/
theorem dataByteAt_below (s : State) (b : Byte) (p : BitVec 2) (x : BitVec 6) (rs : List Reg) (r : Reg) (i n k : Nat)
    (hk : x.toNat = i + k) (hn : k + 1 < n) (h : WritesAt p x s) (hx : x ≠ 63)
    (hrow : rowAt p.toNat x.toNat = some ⟨q, i, r, n⟩) (hm : rs.contains r = true) (hw : isWritable r = true) :
    dataByteAt rs b s =
      { s with
        svp :=
          { s.svp with
            ack := true
            index := .index (x + 1)
            staging := unstageByte r k s.svp.staging ++ [⟨r, k, b⟩] } } := by
  have row := currentRow_of_writesAt s p x _ h hrow
  have row' : currentRow (setAck true s) = currentRow s := rfl
  have idx : (setAck true s).svp.index = .index x := h.2.2.2
  have off : currentOffset (setAck true s) ⟨q, i, r, n⟩ = k := by simp only [currentOffset, idx]; omega
  simp only [dataByteAt, reaches, currentReg, row, Option.map_some, hm, if_true]
  rw [dataByte_heard s b h.1 h.2.1]
  simp only [writeAndAdvance, writeAtIndex, idx, row', row, writeRegByte, hw, off]
  simp [setAck, hn, stageByte, advanceIndex, RegIndex.next, h.2.2.2]
  simpa using hx

/-- The highest byte of a register makes the value take effect (R187). -/
theorem dataByteAt_highest (s : State) (b : Byte) (p : BitVec 2) (x : BitVec 6) (rs : List Reg) (r : Reg) (i n : Nat)
    (h : WritesAt p x s) (hxi : x.toNat = i + (n - 1)) (hn : 1 ≤ n)
    (hrow : rowAt p.toNat x.toNat = some ⟨q, i, r, n⟩) (hm : rs.contains r = true) (hw : isWritable r = true) :
    dataByteAt rs b s = advanceIndex (takeValue r (formedValue r n b (setAck true s))
      { s with svp := { s.svp with ack := true, staging := unstage r s.svp.staging } }) := by
  have row := currentRow_of_writesAt s p x _ h hrow
  have row' : currentRow (setAck true s) = currentRow s := rfl
  have idx : (setAck true s).svp.index = .index x := h.2.2.2
  have off : currentOffset (setAck true s) ⟨q, i, r, n⟩ = n - 1 := by simp only [currentOffset, idx]; omega
  have last : ¬ (n - 1 + 1 < n) := by omega
  simp only [dataByteAt, reaches, currentReg, row, Option.map_some, hm, if_true]
  rw [dataByte_heard s b h.1 h.2.1]
  simp only [writeAndAdvance, writeAtIndex, idx, row', row, writeRegByte, hw, off]
  simp [setAck, last, h.2.2.2]

/-- A byte of a value in the making is the one staged, or the one kept where none is (R187). -/
theorem staged_or_kept (r : Reg) (k : Nat) (v kept : Byte) (s : State)
    (h : (s.svp.staging.find? fun q => q.reg = r && q.offset = k) = some ⟨r, k, v⟩
      ∨ (s.svp.staging.find? fun q => q.reg = r && q.offset = k) = none ∧ v = kept)
    (hk : kept = (keptBytes s r).getD k 0) :
    (stagedAt r k s.svp.staging).getD ((keptBytes s r).getD k 0) = v := by
  unfold stagedAt
  rcases h with h | ⟨h, same⟩
  · rw [h]
    rfl
  · rw [h, same, hk]
    rfl

/-- A command's code written to CMD issues the command (R190). -/
theorem commandByte_issues (s : State) (c : CmdCode) (h : WritesAt 1 1 s) :
    commandByte c s = advanceIndex (issueCommand
      { s with svp := { s.svp with ack := true, staging := unstage .cmd s.svp.staging, stat := .ok } } c) := by
  unfold commandByte
  rw [dataByteAt_one (q := some 1) s _ 1 1 [.cmd] .cmd h (by decide) rfl rfl]
  simp only [takeValue, writeCmd]
  have : commandOf (BitVec.ofNat 8 (CmdCode.byte c).toNat) = some c := by cases c <;> decide
  rw [this]
  rfl

/-- The byte that a read segment sends comes from the snapshot of its register, if one is held (R188). -/
theorem byteAtIndex_of_row (s : State) (row : RegRow) (h : currentRow s = some row) :
    byteAtIndex s =
      (let k := currentOffset s row
       let live := (regBytes s row.reg).getD k 0
       if snapshotted row.reg row.bytes then ((snapshotOf row.reg s.svp).map fun bs => bs.getD k 0).getD live
       else live) := by
  simp [byteAtIndex, h]

end Sys2Proof.Laws
end

