-- ==== Sys2Proof/Laws/State.lean ====
section
/-! SUPPORT. For each operation of the model that writes one block, every field of the state after it: one
lemma a field, true by rfl and tagged @[simp], so that no proof unfolds a record update. -/

namespace Sys2Proof.Laws

open Sys2Proof.Machine Sys2Proof.Safety

variable (s : State)

@[simp] theorem raise_straps (f : Flag) : (raise f s).straps = s.straps := rfl
@[simp] theorem raise_resetHeld (f : Flag) : (raise f s).resetHeld = s.resetHeld := rfl
@[simp] theorem raise_ckc (f : Flag) : (raise f s).ckc = s.ckc := rfl
@[simp] theorem raise_cpe (f : Flag) : (raise f s).cpe = s.cpe := rfl
@[simp] theorem raise_jmg (f : Flag) : (raise f s).jmg = s.jmg := rfl
@[simp] theorem raise_rpe (f : Flag) : (raise f s).rpe = s.rpe := rfl
@[simp] theorem raise_hbp (f : Flag) : (raise f s).hbp = s.hbp := rfl
@[simp] theorem raise_siu (f : Flag) : (raise f s).siu = s.siu := rfl
@[simp] theorem raise_atu (f : Flag) : (raise f s).atu = s.atu := rfl
@[simp] theorem raise_mbp (f : Flag) : (raise f s).mbp = s.mbp := rfl
@[simp] theorem raise_acu (f : Flag) :
    (raise f s).acu = { s.acu with flags := s.acu.flags ||| Flag.bit f } := rfl
@[simp] theorem raise_svp (f : Flag) : (raise f s).svp = s.svp := rfl
@[simp] theorem raise_pending (f : Flag) : (raise f s).pending = s.pending := rfl

@[simp] theorem count_straps (k : Counter) (n : Nat) : (count k n s).straps = s.straps := rfl
@[simp] theorem count_resetHeld (k : Counter) (n : Nat) : (count k n s).resetHeld = s.resetHeld := rfl
@[simp] theorem count_ckc (k : Counter) (n : Nat) : (count k n s).ckc = s.ckc := rfl
@[simp] theorem count_cpe (k : Counter) (n : Nat) : (count k n s).cpe = s.cpe := rfl
@[simp] theorem count_jmg (k : Counter) (n : Nat) : (count k n s).jmg = s.jmg := rfl
@[simp] theorem count_rpe (k : Counter) (n : Nat) : (count k n s).rpe = s.rpe := rfl
@[simp] theorem count_hbp (k : Counter) (n : Nat) : (count k n s).hbp = s.hbp := rfl
@[simp] theorem count_siu (k : Counter) (n : Nat) : (count k n s).siu = s.siu := rfl
@[simp] theorem count_atu (k : Counter) (n : Nat) : (count k n s).atu = s.atu := rfl
@[simp] theorem count_mbp (k : Counter) (n : Nat) : (count k n s).mbp = s.mbp := rfl
@[simp] theorem count_acu (k : Counter) (n : Nat) :
    (count k n s).acu = { s.acu with counters := Counters.add s.acu.counters n k } := rfl
@[simp] theorem count_svp (k : Counter) (n : Nat) : (count k n s).svp = s.svp := rfl
@[simp] theorem count_pending (k : Counter) (n : Nat) : (count k n s).pending = s.pending := rfl

@[simp] theorem releaseGate_straps : (releaseGate s).straps = s.straps := rfl
@[simp] theorem releaseGate_resetHeld : (releaseGate s).resetHeld = s.resetHeld := rfl
@[simp] theorem releaseGate_ckc :
    (releaseGate s).ckc = { s.ckc with gateHeld := false } := rfl
@[simp] theorem releaseGate_cpe : (releaseGate s).cpe = s.cpe := rfl
@[simp] theorem releaseGate_jmg : (releaseGate s).jmg = s.jmg := rfl
@[simp] theorem releaseGate_rpe : (releaseGate s).rpe = s.rpe := rfl
@[simp] theorem releaseGate_hbp : (releaseGate s).hbp = s.hbp := rfl
@[simp] theorem releaseGate_siu : (releaseGate s).siu = s.siu := rfl
@[simp] theorem releaseGate_atu : (releaseGate s).atu = s.atu := rfl
@[simp] theorem releaseGate_mbp : (releaseGate s).mbp = s.mbp := rfl
@[simp] theorem releaseGate_acu : (releaseGate s).acu = s.acu := rfl
@[simp] theorem releaseGate_svp : (releaseGate s).svp = s.svp := rfl
@[simp] theorem releaseGate_pending : (releaseGate s).pending = s.pending := rfl

@[simp] theorem enqueue_straps (e : QueueEntry) : (enqueue e s).straps = s.straps := rfl
@[simp] theorem enqueue_resetHeld (e : QueueEntry) : (enqueue e s).resetHeld = s.resetHeld := rfl
@[simp] theorem enqueue_ckc (e : QueueEntry) :
    (enqueue e s).ckc = { s.ckc with queue := s.ckc.queue ++ [e] } := rfl
@[simp] theorem enqueue_cpe (e : QueueEntry) : (enqueue e s).cpe = s.cpe := rfl
@[simp] theorem enqueue_jmg (e : QueueEntry) : (enqueue e s).jmg = s.jmg := rfl
@[simp] theorem enqueue_rpe (e : QueueEntry) : (enqueue e s).rpe = s.rpe := rfl
@[simp] theorem enqueue_hbp (e : QueueEntry) : (enqueue e s).hbp = s.hbp := rfl
@[simp] theorem enqueue_siu (e : QueueEntry) : (enqueue e s).siu = s.siu := rfl
@[simp] theorem enqueue_atu (e : QueueEntry) : (enqueue e s).atu = s.atu := rfl
@[simp] theorem enqueue_mbp (e : QueueEntry) : (enqueue e s).mbp = s.mbp := rfl
@[simp] theorem enqueue_acu (e : QueueEntry) : (enqueue e s).acu = s.acu := rfl
@[simp] theorem enqueue_svp (e : QueueEntry) : (enqueue e s).svp = s.svp := rfl
@[simp] theorem enqueue_pending (e : QueueEntry) : (enqueue e s).pending = s.pending := rfl

@[simp] theorem leaveService_straps : (leaveService s).straps = s.straps := rfl
@[simp] theorem leaveService_resetHeld : (leaveService s).resetHeld = s.resetHeld := rfl
@[simp] theorem leaveService_ckc :
    (leaveService s).ckc = { s.ckc with inService := none } := rfl
@[simp] theorem leaveService_cpe : (leaveService s).cpe = s.cpe := rfl
@[simp] theorem leaveService_jmg : (leaveService s).jmg = s.jmg := rfl
@[simp] theorem leaveService_rpe : (leaveService s).rpe = s.rpe := rfl
@[simp] theorem leaveService_hbp : (leaveService s).hbp = s.hbp := rfl
@[simp] theorem leaveService_siu : (leaveService s).siu = s.siu := rfl
@[simp] theorem leaveService_atu : (leaveService s).atu = s.atu := rfl
@[simp] theorem leaveService_mbp : (leaveService s).mbp = s.mbp := rfl
@[simp] theorem leaveService_acu : (leaveService s).acu = s.acu := rfl
@[simp] theorem leaveService_svp : (leaveService s).svp = s.svp := rfl
@[simp] theorem leaveService_pending : (leaveService s).pending = s.pending := rfl

@[simp] theorem setFaultRequest_straps : (setFaultRequest s).straps = s.straps := rfl
@[simp] theorem setFaultRequest_resetHeld : (setFaultRequest s).resetHeld = s.resetHeld := rfl
@[simp] theorem setFaultRequest_ckc :
    (setFaultRequest s).ckc = { s.ckc with faultRequest := true } := rfl
@[simp] theorem setFaultRequest_cpe : (setFaultRequest s).cpe = s.cpe := rfl
@[simp] theorem setFaultRequest_jmg : (setFaultRequest s).jmg = s.jmg := rfl
@[simp] theorem setFaultRequest_rpe : (setFaultRequest s).rpe = s.rpe := rfl
@[simp] theorem setFaultRequest_hbp : (setFaultRequest s).hbp = s.hbp := rfl
@[simp] theorem setFaultRequest_siu : (setFaultRequest s).siu = s.siu := rfl
@[simp] theorem setFaultRequest_atu : (setFaultRequest s).atu = s.atu := rfl
@[simp] theorem setFaultRequest_mbp : (setFaultRequest s).mbp = s.mbp := rfl
@[simp] theorem setFaultRequest_acu : (setFaultRequest s).acu = s.acu := rfl
@[simp] theorem setFaultRequest_svp : (setFaultRequest s).svp = s.svp := rfl
@[simp] theorem setFaultRequest_pending : (setFaultRequest s).pending = s.pending := rfl

@[simp] theorem enterDormant_straps : (enterDormant s).straps = s.straps := rfl
@[simp] theorem enterDormant_resetHeld : (enterDormant s).resetHeld = s.resetHeld := rfl
@[simp] theorem enterDormant_ckc :
    (enterDormant s).ckc = { s.ckc with state := .dormant } := rfl
@[simp] theorem enterDormant_cpe : (enterDormant s).cpe = s.cpe := rfl
@[simp] theorem enterDormant_jmg : (enterDormant s).jmg = s.jmg := rfl
@[simp] theorem enterDormant_rpe : (enterDormant s).rpe = s.rpe := rfl
@[simp] theorem enterDormant_hbp : (enterDormant s).hbp = s.hbp := rfl
@[simp] theorem enterDormant_siu : (enterDormant s).siu = s.siu := rfl
@[simp] theorem enterDormant_atu : (enterDormant s).atu = s.atu := rfl
@[simp] theorem enterDormant_mbp : (enterDormant s).mbp = s.mbp := rfl
@[simp] theorem enterDormant_acu : (enterDormant s).acu = s.acu := rfl
@[simp] theorem enterDormant_svp : (enterDormant s).svp = s.svp := rfl
@[simp] theorem enterDormant_pending : (enterDormant s).pending = s.pending := rfl

@[simp] theorem setCapture_straps (c : Capture) : (setCapture c s).straps = s.straps := rfl
@[simp] theorem setCapture_resetHeld (c : Capture) : (setCapture c s).resetHeld = s.resetHeld := rfl
@[simp] theorem setCapture_ckc (c : Capture) : (setCapture c s).ckc = s.ckc := rfl
@[simp] theorem setCapture_cpe (c : Capture) :
    (setCapture c s).cpe = { s.cpe with capture := some c } := rfl
@[simp] theorem setCapture_jmg (c : Capture) : (setCapture c s).jmg = s.jmg := rfl
@[simp] theorem setCapture_rpe (c : Capture) : (setCapture c s).rpe = s.rpe := rfl
@[simp] theorem setCapture_hbp (c : Capture) : (setCapture c s).hbp = s.hbp := rfl
@[simp] theorem setCapture_siu (c : Capture) : (setCapture c s).siu = s.siu := rfl
@[simp] theorem setCapture_atu (c : Capture) : (setCapture c s).atu = s.atu := rfl
@[simp] theorem setCapture_mbp (c : Capture) : (setCapture c s).mbp = s.mbp := rfl
@[simp] theorem setCapture_acu (c : Capture) : (setCapture c s).acu = s.acu := rfl
@[simp] theorem setCapture_svp (c : Capture) : (setCapture c s).svp = s.svp := rfl
@[simp] theorem setCapture_pending (c : Capture) : (setCapture c s).pending = s.pending := rfl

@[simp] theorem emptyCaptureSet_straps : (emptyCaptureSet s).straps = s.straps := rfl
@[simp] theorem emptyCaptureSet_resetHeld : (emptyCaptureSet s).resetHeld = s.resetHeld := rfl
@[simp] theorem emptyCaptureSet_ckc : (emptyCaptureSet s).ckc = s.ckc := rfl
@[simp] theorem emptyCaptureSet_cpe :
    (emptyCaptureSet s).cpe = { s.cpe with captureSet := [] } := rfl
@[simp] theorem emptyCaptureSet_jmg : (emptyCaptureSet s).jmg = s.jmg := rfl
@[simp] theorem emptyCaptureSet_rpe : (emptyCaptureSet s).rpe = s.rpe := rfl
@[simp] theorem emptyCaptureSet_hbp : (emptyCaptureSet s).hbp = s.hbp := rfl
@[simp] theorem emptyCaptureSet_siu : (emptyCaptureSet s).siu = s.siu := rfl
@[simp] theorem emptyCaptureSet_atu : (emptyCaptureSet s).atu = s.atu := rfl
@[simp] theorem emptyCaptureSet_mbp : (emptyCaptureSet s).mbp = s.mbp := rfl
@[simp] theorem emptyCaptureSet_acu : (emptyCaptureSet s).acu = s.acu := rfl
@[simp] theorem emptyCaptureSet_svp : (emptyCaptureSet s).svp = s.svp := rfl
@[simp] theorem emptyCaptureSet_pending : (emptyCaptureSet s).pending = s.pending := rfl

@[simp] theorem setSerial_straps (n : Nat) : (setSerial n s).straps = s.straps := rfl
@[simp] theorem setSerial_resetHeld (n : Nat) : (setSerial n s).resetHeld = s.resetHeld := rfl
@[simp] theorem setSerial_ckc (n : Nat) : (setSerial n s).ckc = s.ckc := rfl
@[simp] theorem setSerial_cpe (n : Nat) : (setSerial n s).cpe = s.cpe := rfl
@[simp] theorem setSerial_jmg (n : Nat) :
    (setSerial n s).jmg = { s.jmg with nextSerial := n } := rfl
@[simp] theorem setSerial_rpe (n : Nat) : (setSerial n s).rpe = s.rpe := rfl
@[simp] theorem setSerial_hbp (n : Nat) : (setSerial n s).hbp = s.hbp := rfl
@[simp] theorem setSerial_siu (n : Nat) : (setSerial n s).siu = s.siu := rfl
@[simp] theorem setSerial_atu (n : Nat) : (setSerial n s).atu = s.atu := rfl
@[simp] theorem setSerial_mbp (n : Nat) : (setSerial n s).mbp = s.mbp := rfl
@[simp] theorem setSerial_acu (n : Nat) : (setSerial n s).acu = s.acu := rfl
@[simp] theorem setSerial_svp (n : Nat) : (setSerial n s).svp = s.svp := rfl
@[simp] theorem setSerial_pending (n : Nat) : (setSerial n s).pending = s.pending := rfl

@[simp] theorem headerFailed_straps (w : HeaderWrite) : (headerFailed w s).straps = s.straps := rfl
@[simp] theorem headerFailed_resetHeld (w : HeaderWrite) : (headerFailed w s).resetHeld = s.resetHeld := rfl
@[simp] theorem headerFailed_ckc (w : HeaderWrite) : (headerFailed w s).ckc = s.ckc := rfl
@[simp] theorem headerFailed_cpe (w : HeaderWrite) : (headerFailed w s).cpe = s.cpe := rfl
@[simp] theorem headerFailed_jmg (w : HeaderWrite) :
    (headerFailed w s).jmg
      = { s.jmg with headerWrite := none, failedCopies := s.jmg.failedCopies.put w.copy true } := rfl
@[simp] theorem headerFailed_rpe (w : HeaderWrite) : (headerFailed w s).rpe = s.rpe := rfl
@[simp] theorem headerFailed_hbp (w : HeaderWrite) : (headerFailed w s).hbp = s.hbp := rfl
@[simp] theorem headerFailed_siu (w : HeaderWrite) : (headerFailed w s).siu = s.siu := rfl
@[simp] theorem headerFailed_atu (w : HeaderWrite) : (headerFailed w s).atu = s.atu := rfl
@[simp] theorem headerFailed_mbp (w : HeaderWrite) : (headerFailed w s).mbp = s.mbp := rfl
@[simp] theorem headerFailed_acu (w : HeaderWrite) : (headerFailed w s).acu = s.acu := rfl
@[simp] theorem headerFailed_svp (w : HeaderWrite) : (headerFailed w s).svp = s.svp := rfl
@[simp] theorem headerFailed_pending (w : HeaderWrite) : (headerFailed w s).pending = s.pending := rfl

@[simp] theorem setRpeStep_straps (st : RpeStep) : (setRpeStep st s).straps = s.straps := rfl
@[simp] theorem setRpeStep_resetHeld (st : RpeStep) : (setRpeStep st s).resetHeld = s.resetHeld := rfl
@[simp] theorem setRpeStep_ckc (st : RpeStep) : (setRpeStep st s).ckc = s.ckc := rfl
@[simp] theorem setRpeStep_cpe (st : RpeStep) : (setRpeStep st s).cpe = s.cpe := rfl
@[simp] theorem setRpeStep_jmg (st : RpeStep) : (setRpeStep st s).jmg = s.jmg := rfl
@[simp] theorem setRpeStep_rpe (st : RpeStep) :
    (setRpeStep st s).rpe = { s.rpe with step := st } := rfl
@[simp] theorem setRpeStep_hbp (st : RpeStep) : (setRpeStep st s).hbp = s.hbp := rfl
@[simp] theorem setRpeStep_siu (st : RpeStep) : (setRpeStep st s).siu = s.siu := rfl
@[simp] theorem setRpeStep_atu (st : RpeStep) : (setRpeStep st s).atu = s.atu := rfl
@[simp] theorem setRpeStep_mbp (st : RpeStep) : (setRpeStep st s).mbp = s.mbp := rfl
@[simp] theorem setRpeStep_acu (st : RpeStep) : (setRpeStep st s).acu = s.acu := rfl
@[simp] theorem setRpeStep_svp (st : RpeStep) : (setRpeStep st s).svp = s.svp := rfl
@[simp] theorem setRpeStep_pending (st : RpeStep) : (setRpeStep st s).pending = s.pending := rfl

@[simp] theorem clearHalt_straps : (clearHalt s).straps = s.straps := rfl
@[simp] theorem clearHalt_resetHeld : (clearHalt s).resetHeld = s.resetHeld := rfl
@[simp] theorem clearHalt_ckc : (clearHalt s).ckc = s.ckc := rfl
@[simp] theorem clearHalt_cpe : (clearHalt s).cpe = s.cpe := rfl
@[simp] theorem clearHalt_jmg : (clearHalt s).jmg = s.jmg := rfl
@[simp] theorem clearHalt_rpe :
    (clearHalt s).rpe = { s.rpe with haltReason := .none, haltItem := .none } := rfl
@[simp] theorem clearHalt_hbp : (clearHalt s).hbp = s.hbp := rfl
@[simp] theorem clearHalt_siu : (clearHalt s).siu = s.siu := rfl
@[simp] theorem clearHalt_atu : (clearHalt s).atu = s.atu := rfl
@[simp] theorem clearHalt_mbp : (clearHalt s).mbp = s.mbp := rfl
@[simp] theorem clearHalt_acu : (clearHalt s).acu = s.acu := rfl
@[simp] theorem clearHalt_svp : (clearHalt s).svp = s.svp := rfl
@[simp] theorem clearHalt_pending : (clearHalt s).pending = s.pending := rfl

@[simp] theorem setDisposition_straps (d : Disposition) : (setDisposition d s).straps = s.straps := rfl
@[simp] theorem setDisposition_resetHeld (d : Disposition) : (setDisposition d s).resetHeld = s.resetHeld := rfl
@[simp] theorem setDisposition_ckc (d : Disposition) : (setDisposition d s).ckc = s.ckc := rfl
@[simp] theorem setDisposition_cpe (d : Disposition) : (setDisposition d s).cpe = s.cpe := rfl
@[simp] theorem setDisposition_jmg (d : Disposition) : (setDisposition d s).jmg = s.jmg := rfl
@[simp] theorem setDisposition_rpe (d : Disposition) : (setDisposition d s).rpe = s.rpe := rfl
@[simp] theorem setDisposition_hbp (d : Disposition) :
    (setDisposition d s).hbp = { s.hbp with current := s.hbp.current.map fun c => { c with disposition := d } } := rfl
@[simp] theorem setDisposition_siu (d : Disposition) : (setDisposition d s).siu = s.siu := rfl
@[simp] theorem setDisposition_atu (d : Disposition) : (setDisposition d s).atu = s.atu := rfl
@[simp] theorem setDisposition_mbp (d : Disposition) : (setDisposition d s).mbp = s.mbp := rfl
@[simp] theorem setDisposition_acu (d : Disposition) : (setDisposition d s).acu = s.acu := rfl
@[simp] theorem setDisposition_svp (d : Disposition) : (setDisposition d s).svp = s.svp := rfl
@[simp] theorem setDisposition_pending (d : Disposition) : (setDisposition d s).pending = s.pending := rfl

@[simp] theorem answerOkay_straps (d : List Cell) : (answerOkay d s).straps = s.straps := rfl
@[simp] theorem answerOkay_resetHeld (d : List Cell) : (answerOkay d s).resetHeld = s.resetHeld := rfl
@[simp] theorem answerOkay_ckc (d : List Cell) : (answerOkay d s).ckc = s.ckc := rfl
@[simp] theorem answerOkay_cpe (d : List Cell) : (answerOkay d s).cpe = s.cpe := rfl
@[simp] theorem answerOkay_jmg (d : List Cell) : (answerOkay d s).jmg = s.jmg := rfl
@[simp] theorem answerOkay_rpe (d : List Cell) : (answerOkay d s).rpe = s.rpe := rfl
@[simp] theorem answerOkay_hbp (d : List Cell) :
    (answerOkay d s).hbp = { s.hbp with current := none, answer := .okay d } := rfl
@[simp] theorem answerOkay_siu (d : List Cell) : (answerOkay d s).siu = s.siu := rfl
@[simp] theorem answerOkay_atu (d : List Cell) : (answerOkay d s).atu = s.atu := rfl
@[simp] theorem answerOkay_mbp (d : List Cell) : (answerOkay d s).mbp = s.mbp := rfl
@[simp] theorem answerOkay_acu (d : List Cell) : (answerOkay d s).acu = s.acu := rfl
@[simp] theorem answerOkay_svp (d : List Cell) : (answerOkay d s).svp = s.svp := rfl
@[simp] theorem answerOkay_pending (d : List Cell) : (answerOkay d s).pending = s.pending := rfl

@[simp] theorem popRefusalEffect_straps : (popRefusalEffect s).straps = s.straps := rfl
@[simp] theorem popRefusalEffect_resetHeld : (popRefusalEffect s).resetHeld = s.resetHeld := rfl
@[simp] theorem popRefusalEffect_ckc : (popRefusalEffect s).ckc = s.ckc := rfl
@[simp] theorem popRefusalEffect_cpe : (popRefusalEffect s).cpe = s.cpe := rfl
@[simp] theorem popRefusalEffect_jmg : (popRefusalEffect s).jmg = s.jmg := rfl
@[simp] theorem popRefusalEffect_rpe : (popRefusalEffect s).rpe = s.rpe := rfl
@[simp] theorem popRefusalEffect_hbp :
    (popRefusalEffect s).hbp = { s.hbp with refusals := s.hbp.refusals.tail } := rfl
@[simp] theorem popRefusalEffect_siu : (popRefusalEffect s).siu = s.siu := rfl
@[simp] theorem popRefusalEffect_atu : (popRefusalEffect s).atu = s.atu := rfl
@[simp] theorem popRefusalEffect_mbp : (popRefusalEffect s).mbp = s.mbp := rfl
@[simp] theorem popRefusalEffect_acu : (popRefusalEffect s).acu = s.acu := rfl
@[simp] theorem popRefusalEffect_svp : (popRefusalEffect s).svp = s.svp := rfl
@[simp] theorem popRefusalEffect_pending : (popRefusalEffect s).pending = s.pending := rfl

@[simp] theorem freeBus_straps : (freeBus s).straps = s.straps := rfl
@[simp] theorem freeBus_resetHeld : (freeBus s).resetHeld = s.resetHeld := rfl
@[simp] theorem freeBus_ckc : (freeBus s).ckc = s.ckc := rfl
@[simp] theorem freeBus_cpe : (freeBus s).cpe = s.cpe := rfl
@[simp] theorem freeBus_jmg : (freeBus s).jmg = s.jmg := rfl
@[simp] theorem freeBus_rpe : (freeBus s).rpe = s.rpe := rfl
@[simp] theorem freeBus_hbp : (freeBus s).hbp = s.hbp := rfl
@[simp] theorem freeBus_siu : (freeBus s).siu = s.siu := rfl
@[simp] theorem freeBus_atu : (freeBus s).atu = s.atu := rfl
@[simp] theorem freeBus_mbp :
    (freeBus s).mbp = { s.mbp with phase := .free } := rfl
@[simp] theorem freeBus_acu : (freeBus s).acu = s.acu := rfl
@[simp] theorem freeBus_svp : (freeBus s).svp = s.svp := rfl
@[simp] theorem freeBus_pending : (freeBus s).pending = s.pending := rfl

@[simp] theorem setCmdResult_straps (r : CmdResult) : (setCmdResult r s).straps = s.straps := rfl
@[simp] theorem setCmdResult_resetHeld (r : CmdResult) : (setCmdResult r s).resetHeld = s.resetHeld := rfl
@[simp] theorem setCmdResult_ckc (r : CmdResult) : (setCmdResult r s).ckc = s.ckc := rfl
@[simp] theorem setCmdResult_cpe (r : CmdResult) : (setCmdResult r s).cpe = s.cpe := rfl
@[simp] theorem setCmdResult_jmg (r : CmdResult) : (setCmdResult r s).jmg = s.jmg := rfl
@[simp] theorem setCmdResult_rpe (r : CmdResult) : (setCmdResult r s).rpe = s.rpe := rfl
@[simp] theorem setCmdResult_hbp (r : CmdResult) : (setCmdResult r s).hbp = s.hbp := rfl
@[simp] theorem setCmdResult_siu (r : CmdResult) : (setCmdResult r s).siu = s.siu := rfl
@[simp] theorem setCmdResult_atu (r : CmdResult) : (setCmdResult r s).atu = s.atu := rfl
@[simp] theorem setCmdResult_mbp (r : CmdResult) : (setCmdResult r s).mbp = s.mbp := rfl
@[simp] theorem setCmdResult_acu (r : CmdResult) : (setCmdResult r s).acu = s.acu := rfl
@[simp] theorem setCmdResult_svp (r : CmdResult) :
    (setCmdResult r s).svp = { s.svp with cmdResult := r } := rfl
@[simp] theorem setCmdResult_pending (r : CmdResult) : (setCmdResult r s).pending = s.pending := rfl

@[simp] theorem setStat_straps (r : SvcStat) : (setStat r s).straps = s.straps := rfl
@[simp] theorem setStat_resetHeld (r : SvcStat) : (setStat r s).resetHeld = s.resetHeld := rfl
@[simp] theorem setStat_ckc (r : SvcStat) : (setStat r s).ckc = s.ckc := rfl
@[simp] theorem setStat_cpe (r : SvcStat) : (setStat r s).cpe = s.cpe := rfl
@[simp] theorem setStat_jmg (r : SvcStat) : (setStat r s).jmg = s.jmg := rfl
@[simp] theorem setStat_rpe (r : SvcStat) : (setStat r s).rpe = s.rpe := rfl
@[simp] theorem setStat_hbp (r : SvcStat) : (setStat r s).hbp = s.hbp := rfl
@[simp] theorem setStat_siu (r : SvcStat) : (setStat r s).siu = s.siu := rfl
@[simp] theorem setStat_atu (r : SvcStat) : (setStat r s).atu = s.atu := rfl
@[simp] theorem setStat_mbp (r : SvcStat) : (setStat r s).mbp = s.mbp := rfl
@[simp] theorem setStat_acu (r : SvcStat) : (setStat r s).acu = s.acu := rfl
@[simp] theorem setStat_svp (r : SvcStat) :
    (setStat r s).svp = { s.svp with stat := r } := rfl
@[simp] theorem setStat_pending (r : SvcStat) : (setStat r s).pending = s.pending := rfl

@[simp] theorem setRegStat_straps (r : RegStat) : (setRegStat r s).straps = s.straps := rfl
@[simp] theorem setRegStat_resetHeld (r : RegStat) : (setRegStat r s).resetHeld = s.resetHeld := rfl
@[simp] theorem setRegStat_ckc (r : RegStat) : (setRegStat r s).ckc = s.ckc := rfl
@[simp] theorem setRegStat_cpe (r : RegStat) : (setRegStat r s).cpe = s.cpe := rfl
@[simp] theorem setRegStat_jmg (r : RegStat) : (setRegStat r s).jmg = s.jmg := rfl
@[simp] theorem setRegStat_rpe (r : RegStat) : (setRegStat r s).rpe = s.rpe := rfl
@[simp] theorem setRegStat_hbp (r : RegStat) : (setRegStat r s).hbp = s.hbp := rfl
@[simp] theorem setRegStat_siu (r : RegStat) : (setRegStat r s).siu = s.siu := rfl
@[simp] theorem setRegStat_atu (r : RegStat) : (setRegStat r s).atu = s.atu := rfl
@[simp] theorem setRegStat_mbp (r : RegStat) : (setRegStat r s).mbp = s.mbp := rfl
@[simp] theorem setRegStat_acu (r : RegStat) : (setRegStat r s).acu = s.acu := rfl
@[simp] theorem setRegStat_svp (r : RegStat) :
    (setRegStat r s).svp = { s.svp with regStat := r } := rfl
@[simp] theorem setRegStat_pending (r : RegStat) : (setRegStat r s).pending = s.pending := rfl

@[simp] theorem setAck_straps (a : Bool) : (setAck a s).straps = s.straps := rfl
@[simp] theorem setAck_resetHeld (a : Bool) : (setAck a s).resetHeld = s.resetHeld := rfl
@[simp] theorem setAck_ckc (a : Bool) : (setAck a s).ckc = s.ckc := rfl
@[simp] theorem setAck_cpe (a : Bool) : (setAck a s).cpe = s.cpe := rfl
@[simp] theorem setAck_jmg (a : Bool) : (setAck a s).jmg = s.jmg := rfl
@[simp] theorem setAck_rpe (a : Bool) : (setAck a s).rpe = s.rpe := rfl
@[simp] theorem setAck_hbp (a : Bool) : (setAck a s).hbp = s.hbp := rfl
@[simp] theorem setAck_siu (a : Bool) : (setAck a s).siu = s.siu := rfl
@[simp] theorem setAck_atu (a : Bool) : (setAck a s).atu = s.atu := rfl
@[simp] theorem setAck_mbp (a : Bool) : (setAck a s).mbp = s.mbp := rfl
@[simp] theorem setAck_acu (a : Bool) : (setAck a s).acu = s.acu := rfl
@[simp] theorem setAck_svp (a : Bool) :
    (setAck a s).svp = { s.svp with ack := a } := rfl
@[simp] theorem setAck_pending (a : Bool) : (setAck a s).pending = s.pending := rfl

@[simp] theorem advanceIndex_straps : (advanceIndex s).straps = s.straps := rfl
@[simp] theorem advanceIndex_resetHeld : (advanceIndex s).resetHeld = s.resetHeld := rfl
@[simp] theorem advanceIndex_ckc : (advanceIndex s).ckc = s.ckc := rfl
@[simp] theorem advanceIndex_cpe : (advanceIndex s).cpe = s.cpe := rfl
@[simp] theorem advanceIndex_jmg : (advanceIndex s).jmg = s.jmg := rfl
@[simp] theorem advanceIndex_rpe : (advanceIndex s).rpe = s.rpe := rfl
@[simp] theorem advanceIndex_hbp : (advanceIndex s).hbp = s.hbp := rfl
@[simp] theorem advanceIndex_siu : (advanceIndex s).siu = s.siu := rfl
@[simp] theorem advanceIndex_atu : (advanceIndex s).atu = s.atu := rfl
@[simp] theorem advanceIndex_mbp : (advanceIndex s).mbp = s.mbp := rfl
@[simp] theorem advanceIndex_acu : (advanceIndex s).acu = s.acu := rfl
@[simp] theorem advanceIndex_svp :
    (advanceIndex s).svp = { s.svp with index := RegIndex.next s.svp.index } := rfl
@[simp] theorem advanceIndex_pending : (advanceIndex s).pending = s.pending := rfl

/-! ## The Journal Manager after a header write -/

section JournalManager
variable (w : HeaderWrite) (j : Jmg)

@[simp] theorem headerDone_top : (headerDone w j).top = j.top := rfl
@[simp] theorem headerDone_nextSerial : (headerDone w j).nextSerial = j.nextSerial := rfl
@[simp] theorem headerDone_highWater : (headerDone w j).highWater = j.highWater := rfl
@[simp] theorem headerDone_generation : (headerDone w j).generation = w.contents.generation := rfl
@[simp] theorem headerDone_current : (headerDone w j).current = some w.copy := rfl
@[simp] theorem headerDone_headerWrite : (headerDone w j).headerWrite = none := rfl
@[simp] theorem headerDone_headerWaiting : (headerDone w j).headerWaiting = j.headerWaiting := rfl
@[simp] theorem headerDone_headerStale : (headerDone w j).headerStale = false := rfl
@[simp] theorem headerDone_wipeCursor : (headerDone w j).wipeCursor = j.wipeCursor := rfl
@[simp] theorem headerDone_scan : (headerDone w j).scan = j.scan := rfl
@[simp] theorem headerDone_failedCopies : (headerDone w j).failedCopies
    = if w.copy = .a then ⟨false, j.failedCopies.b⟩ else ⟨j.failedCopies.a, false⟩ := rfl

@[simp] theorem headerLost_top : (headerLost w j).top = j.top := rfl
@[simp] theorem headerLost_nextSerial : (headerLost w j).nextSerial = j.nextSerial := rfl
@[simp] theorem headerLost_highWater : (headerLost w j).highWater = j.highWater := rfl
@[simp] theorem headerLost_generation : (headerLost w j).generation = j.generation := rfl
@[simp] theorem headerLost_current : (headerLost w j).current = j.current := rfl
@[simp] theorem headerLost_headerWrite : (headerLost w j).headerWrite = none := rfl
@[simp] theorem headerLost_headerWaiting : (headerLost w j).headerWaiting = j.headerWaiting := rfl
@[simp] theorem headerLost_headerStale : (headerLost w j).headerStale = j.headerStale := rfl
@[simp] theorem headerLost_wipeCursor : (headerLost w j).wipeCursor = j.wipeCursor := rfl
@[simp] theorem headerLost_scan : (headerLost w j).scan = j.scan := rfl
@[simp] theorem headerLost_failedCopies : (headerLost w j).failedCopies
    = if w.copy = .a then ⟨true, j.failedCopies.b⟩ else ⟨j.failedCopies.a, true⟩ := rfl

end JournalManager

end Sys2Proof.Laws
end

