-- ==== Sys2Proof/Tests/Slice0.lean ====
section
/-! SUPPORT. Tests of the model: the well-formedness checks refuse what they should, values that the manual works
out, and for each statement of Certificates/Slice0/Obligations.lean a state and operands that meet the hypotheses of
each of its clauses. -/

namespace Sys2Proof.Tests

set_option Elab.async false

open Sys2Proof.Machine Sys2Proof.Safety

/-! ## Well-formedness -/

/-- A code that names a command is no UNKNOWN_COMMAND (R190). -/
theorem test_named_code_refused : Instr.wellFormed (.unknownCommand 0x13) = false := by decide

theorem test_unnamed_code_accepted : Instr.wellFormed (.unknownCommand 0x00) = true := by decide

/-- An order of held events names none twice (R109). -/
theorem test_repeated_event_refused : Instr.wellFormed (.wakeEnd [.host, .fault, .host]) = false := by decide

theorem test_order_of_all_accepted : Instr.wellFormed (.wakeEnd [.service, .fault, .strobes, .host]) = true := by
  decide

/-- The table gives no row bits, so no word spells a command. -/
theorem test_no_word_spells_a_command : decodeTableWord 16 0x1234 = none := by decide

/-! ## States to start from -/

/-- The state after a command. -/
def after (i : Instr) (s : State) : State :=
  match exec i s with
  | .next t => t
  | _ => s

/-- READY at depth 0 with nothing in progress and the bus FREE. -/
def ready : State :=
  { State.reset with
    resetHeld := false
    ckc := { Ckc.reset with state := .ready, startUp := false }
    mbp := { Mbp.reset with phase := .free } }

/-- A controller state in place of READY. -/
def inState (st : CtrlState) (s : State) : State := { s with ckc := { s.ckc with state := st } }

/-- Frames of levels 1 and 2, starting at slots 0 and 1. -/
def frame1 : Frame := ⟨1, 0, 0x11, 7, .service, 0, false, false, false⟩
def frame2 : Frame := ⟨2, 1, 0x12, 8, .strobe, 0, false, false, true⟩

/-- The given frames open, with one live slot. -/
def opened (fs : List Frame) (s : State) : State :=
  { s with ckc := { s.ckc with frames := fs }, jmg := { s.jmg with top := 1 } }

def one : State := opened [frame1] ready
def two : State := opened [frame1, frame2] ready

/-- A transaction of a purpose outstanding. -/
def awaiting (p : Purpose) (s : State) : State :=
  { s with
    mbp := { s.mbp with phase := .busy, outstanding := some ⟨⟨.engine, p, 0, .read, .one, 0xF, []⟩, 32⟩ } }

/-- A header write of a purpose. -/
def aHeader (p : HeaderPurpose) (second : Bool) : HeaderWrite := ⟨p, .a, ⟨1, cleanHeader, 0⟩, second⟩

/-- Half of a header write outstanding. -/
def halfOut (p : HeaderPurpose) (second : Bool) (s : State) : State :=
  awaiting .headerHalf { s with jmg := { s.jmg with headerWrite := some (aHeader p second) } }

/-- A command in service. -/
def serving (k : QueueKind) (t : Nat) (s : State) : State :=
  { s with ckc := { s.ckc with inService := some ⟨.service, k, t⟩ } }

/-- Entries in the command queue. -/
def queued (es : List QueueEntry) (s : State) : State := { s with ckc := { s.ckc with queue := es } }

/-- A write segment at an index of a page. -/
def writingAt (p : BitVec 2) (i : BitVec 6) (s : State) : State :=
  { s with svp := { s.svp with segment := .writing, page := p, index := .index i } }

/-- A read segment at an index of a page. -/
def readingAt (p : BitVec 2) (i : BitVec 6) (s : State) : State :=
  { s with svp := { s.svp with segment := .reading, page := p, index := .index i } }

/-- A transaction with zero data and all byte enables. -/
def txn (a : Addr) (d : Dir) (n : Len) : HostTxn := ⟨a, d, n, 0xF, Beats.zero⟩

/-- The current transaction of the host. -/
def hosting (t : HostTxn) (d : Disposition) (c : RegionClass) (s : State) : State :=
  { s with hbp := { s.hbp with current := some ⟨t, d, c, .refuse⟩ } }

/-- Region 0 over the first 64 bytes, of a class. -/
def regionOf (c : RegionClass) (s : State) : State :=
  { s with hbp := { s.hbp with regions := s.hbp.regions.set 0 ⟨true, 0, 64, c, .refuse⟩ } }

/-- A staged low byte. -/
def staged (r : Reg) (b : Byte) (s : State) : State := { s with svp := { s.svp with staging := [⟨r, 0, b⟩] } }

/-! ## Values of the manual -/

/-- The check of R198. -/
theorem test_crc_check_value :
    crc16 [0x31, 0x32, 0x33, 0x34, 0x35, 0x36, 0x37, 0x38, 0x39] = 0x29B1 := by decide +kernel

/-- The example of R63: `$0000_0001` is greater than `$FFFF_FFFE`. -/
theorem test_generation_wraps : generationGreater 0x00000001 0xFFFFFFFE = true := by decide

theorem test_generation_half_way : generationGreater 0x80000000 0 = false := by decide

/-- A slot of zero bytes is invalid (R52, R68). -/
theorem test_zeroed_slot : slotValidates 0x3FE000 (List.replicate 16 0) = false := by decide

/-- The last slot of PL 0 ends where the array ends (R49, R50). -/
theorem test_last_slot : (slotAddr ⟨0, 0, 0⟩ 503).toNat + 16 = 0x400000 := by decide

/-- `$FFFF_FFFF_FFFF` stands for the spent serial (R54). -/
theorem test_spent_serial : storeSerial 0x1000000000000 = 0xFFFFFFFFFFFF ∧ takeSerial 0xFFFFFFFFFFFF = 0x1000000000000 := by
  decide

/-- ID and REV (R200). -/
theorem test_identity : regBytes ready .id = [0x4A] ∧ regBytes ready .rev = [0x01] := by decide

/-- The register after PAGE on page 1 is CMD, and its last is MEMWATCH (R200). -/
theorem test_register_map :
    (rowAt 1 1).map RegRow.reg = some .cmd ∧ (rowAt 1 0x10).map RegRow.reg = some .memwatch ∧ rowAt 1 0x11 = none := by
  decide

/-! ## Single commands -/

/-- A MARK strobe takes the tag 0 and increments it (R131). -/
theorem test_strobe_edge_takes_tag :
    (after (.strobeEdge .mark .rising) ready).ckc.queue = [⟨.strobe, .mark 0⟩]
      ∧ (after (.strobeEdge .mark .rising) ready).siu.strobeTag = 1 := by decide

/-- The strobe tag wraps (R131). -/
theorem test_strobe_tag_wraps :
    (after (.strobeEdge .mark .rising) { ready with siu := { ready.siu with strobeTag := 0xFFFF } }).siu.strobeTag = 0 := by
  decide

/-- A FAULT edge in READY at depth 1 empties the queue and sets the request (R140). -/
theorem test_fault_event_requests :
    (after (.faultEvent .falling) (queued [⟨.strobe, .keep⟩] one)).ckc.faultRequest = true
      ∧ (after (.faultEvent .falling) (queued [⟨.strobe, .keep⟩] one)).acu.counters.cancelled = 1 := by decide

/-- FAULT_REQUEST_ACTED at depth 0 only clears the request (R10). -/
theorem test_fault_request_at_depth_zero :
    after .faultRequestActed { ready with ckc := { ready.ckc with faultRequest := true } } = ready := by decide +kernel

/-- A KEEP at depth 0 completes NO_LEVEL (R13). -/
theorem test_keep_without_level :
    (after .commandTake (queued [⟨.strobe, .keep⟩] ready)).ckc.last = ⟨.strobe, .keep, 0, 0, .noLevel⟩ := by decide

/-- A MARK at depth 0 asks for a header in copy A (R11, R62). -/
theorem test_mark_writes_copy_a :
    (after .commandTake (queued [⟨.service, .mark 5⟩] ready)).mbp.waitEngine.map MemRequest.addr = some 0x3FE000 := by
  decide +kernel

/-- A 2-cell burst at offset 28 of a 32-byte block crosses it (R112). -/
theorem test_crossing_is_refused :
    (after (.hostRequest (txn 28 .read .two)) ready).hbp.refusals.map Refused.reason = [.crossing] := by decide

/-- Only the first failing check counts (R112). -/
theorem test_misaligned_comes_first :
    (after (.hostRequest (txn 0xFFFFFE .read .eight)) ready).hbp.refusals.map Refused.reason = [.misaligned] := by decide

/-- The rotation after SERVICE begins at HOST (R163). -/
theorem test_arbiter_starts_at_host :
    (after .arbiterGrant
      { ready with
        mbp :=
          { ready.mbp with
            waitHost := some (hostRead .passThrough 0 .one)
            waitEngine := some (engineRead .scanSlotRead 16 .four) } }).mbp.lastGrant = .host := by decide

/-- A timeout drains, and the late answer frees the bus (R167, R168). -/
theorem test_late_response_frees :
    (after .lateResponse (after .memoryWatchTimeout
      (awaiting .slotLoad { ready with svp := { ready.svp with slotLoad := some 0 } }))).mbp.phase = .free := by decide

/-- A tick at age 65535 leaves the age (R150). -/
theorem test_tick_saturates_age :
    ((after .tick
      { opened [{ frame1 with age := 0xFFFF }] ready with atu := { Atu.reset with enable := true } }).ckc.frames.map
        Frame.age) = [0xFFFF] := by decide

/-- MASKS keeps its low fourteen bits (R177). -/
theorem test_masks_has_fourteen_bits :
    (after (.masksWrite 0xFF) (staged .masks 0xFF (writingAt 3 0x04 ready))).acu.masks = 0x3FFF := by decide

/-- A write of FLAGS clears the flags written as one (R176). -/
theorem test_flags_write_clears :
    (after (.flagsWrite 0x00) (staged .flags 0x05
      (writingAt 3 0x02 { ready with acu := { Acu.reset with flags := 0x7 } }))).acu.flags = 0x2 := by decide

/-- HIGHWATER takes capacity and refuses one more (R58). -/
theorem test_highwater_range :
    (after (.highwaterWrite 0x01) (staged .highwater 0xF8 (writingAt 0 0x0B ready))).jmg.highWater = 504
      ∧ (after (.highwaterWrite 0x01) (staged .highwater 0xF9 (writingAt 0 0x0B ready))).svp.stat = .badValue := by
  decide

/-- An index byte of `$40` sets PAST (R185). -/
theorem test_index_past :
    (after (.svcIndexByte 0x40) { ready with svp := { ready.svp with segment := .awaitIndex } }).svp.index = .past := by
  decide

/-- DEPTH reads the number of frames (R200). -/
theorem test_read_depth : (after (.readSegmentByte true) (readingAt 0 4 two)).svp.sda = some 2 := by decide

/-- POR keeps the request that the host presents, UNTAKEN (R127). -/
theorem test_por_keeps_request :
    (after .por (hosting (txn 0 .read .one) .service .pass ready)).hbp.current
      = some ⟨txn 0 .read .one, .untaken, .pass, .refuse⟩ := by decide

/-! ## Witnesses: the machine, resets and host traffic -/

theorem witness_StepTakesFrontCommand : ({ ready with pending := [.tick, .por] } : State).pending = .tick :: [.por] := rfl

theorem witness_TimeRunsByRefclk :
    (∃ x, (awaiting .restore ready).mbp.outstanding = some x ∧ x.limit ≠ 0)
      ∧ ((awaiting .restore ready).pending = [] ∧ (awaiting .restore ready).resetHeld = false
        ∧ (awaiting .restore ready).ckc.waking = false ∧ (awaiting .restore ready).atu.enable = false
        ∧ (awaiting .restore ready).mbp.phase = .busy ∧ (awaiting .restore ready).mbp.watchCount = 0
        ∧ (awaiting .restore ready).mbp.watchPeriods = 0)
      ∧ (let s := { ready with atu := { Atu.reset with enable := true, tickSel := 0 } };
        s.pending = [] ∧ s.resetHeld = false ∧ s.ckc.waking = false ∧ s.mbp.phase = .free ∧ s.atu.enable = true
          ∧ s.ckc.state ≠ .dormant ∧ s.atu.prescaler = 0 ∧ s.atu.divider = 0) :=
  ⟨⟨_, rfl, by decide⟩, by decide, by decide⟩

theorem witness_PorAndRstnHoldThePart :
    State.reset.resetHeld = true ∧ State.reset.hbp.current = none := by decide

theorem witness_ResetEndBeginsStartUp :
    State.reset.resetHeld = true ∧ State.reset.ckc.restartPending = false ∧ State.reset.ckc.startUp = true
      ∧ (⟨4, 2, 1⟩ : Straps).rp ≠ 3 ∧ (⟨7, 3, 3⟩ : Straps).rp = 3 := by decide

/-- A restart pending. -/
def restarting (s : State) : State := { s with ckc := { s.ckc with restartPending := true } }

theorem witness_RestartTakesEffectWhenWorkHasEnded :
    (let s := restarting ready;
      s.ckc.restartPending = true ∧ policy s.straps ≠ .bypass ∧ s.hbp.current = none ∧ s.jmg.headerWrite = none
        ∧ s.mbp.outstanding = none ∧ s.mbp.waitHost = none ∧ s.mbp.waitEngine = none ∧ s.mbp.waitService = none)
      ∧ (restarting (hosting (txn 0 .read .one) .service .pass ready)).hbp.current
        = some ⟨txn 0 .read .one, .service, .pass, .refuse⟩
      ∧ (restarting (halfOut .sync false ready)).jmg.headerWrite ≠ none
      ∧ (restarting (awaiting .slotLoad ready)).mbp.outstanding ≠ none := by decide

/-- The same under RP = 3, with a request that waits (R104). -/
theorem witness_RestartUnderBypass :
    let s := restarting (hosting (txn 0 .read .one) .gate .journaled { ready with straps := ⟨0, 3, 0⟩ })
    s.ckc.restartPending = true ∧ policy s.straps = .bypass
      ∧ s.hbp.current = some ⟨txn 0 .read .one, .gate, .journaled, .refuse⟩ ∧ s.jmg.headerWrite = none
      ∧ s.mbp.outstanding = none ∧ s.mbp.waitHost = none ∧ s.mbp.waitEngine = none ∧ s.mbp.waitService = none := by
  decide

theorem witness_FailedChecksRefuseAndAreRecorded :
    TakesAtOnce ready
      ∧ (txn 1 .read .one).addr.toNat % 4 ≠ 0
      ∧ ((txn 28 .read .two).addr.toNat % 4 = 0 ∧ (txn 28 .read .two).addr.toNat % 32 + 4 * Len.cells .two > 32)
      ∧ (0x400000 % 32 + 4 * Len.cells .eight ≤ 32 ∧ arraySize ready.straps ≤ (txn 0x400000 .read .eight).addr.toNat)
      ∧ ((txn 0x3FE000 .read .one).addr.toNat < arraySize ready.straps
        ∧ journalBase ready.straps ≤ (txn 0x3FE000 .read .one).addr.toNat ∧ ready.ckc.state ≠ .bypass) := by decide

/-- Two valid descriptors that overlap at byte 63, the first of them number 0. -/
def overlapping : Vector Region 12 :=
  ((regionOf .barred ready).hbp.regions).set 3 ⟨true, 0, 128, .steady, .breach⟩

theorem witness_LookupTakesLowestNumberedDescriptor :
    (overlapping[3].valid = true ∧ overlapping[3].base.toNat ≤ 64 ∧ 64 < overlapping[3].limit.toNat)
      ∧ (∀ j : Fin 12, j < 3 → ¬ (overlapping[j].valid = true ∧ overlapping[j].base.toNat ≤ 64
          ∧ 64 < overlapping[j].limit.toNat))
      ∧ (∀ i : Fin 12, ¬ (overlapping[i].valid = true ∧ overlapping[i].base.toNat ≤ 128
          ∧ 128 < overlapping[i].limit.toNat)) := by decide

theorem witness_CheckedBurstHasOneClassAndPlace :
    (∀ i : Fin 12, overlapping[i].valid = true →
        overlapping[i].base.toNat % 64 = 0 ∧ overlapping[i].limit.toNat % 64 = 0)
      ∧ (txn 32 .write .eight).addr.toNat % 4 = 0
      ∧ (txn 32 .write .eight).addr.toNat % 32 + 4 * Len.cells (txn 32 .write .eight).len ≤ 32
      ∧ firstFailedCheck ready (txn 0x3FDFE0 .write .eight) = none ∧ ready.ckc.state ≠ .bypass := by decide

theorem witness_HostRequestFollowsTheDispositionTable :
    TakesAtOnce (regionOf .journaled one) ∧ firstFailedCheck (regionOf .journaled one) (txn 0 .write .one) = none
      ∧ isEmptyWrite (txn 0 .write .one) = false
      ∧ TakesAtOnce (inState .replay (regionOf .journaled one)) ∧ TakesAtOnce (inState .bypass ready)
      ∧ TakesAtOnce (inState .halted one) ∧ TakesAtOnce (inState .await one) ∧ TakesAtOnce (inState .wipe ready)
      ∧ TakesAtOnce (inState .unformatted ready) := by decide

/-- A wake in progress in DORMANT. -/
def waking (s : State) : State := { s with ckc := { s.ckc with state := .dormant, waking := true } }

theorem witness_UntakenAndEmptyRequestsNeedNoMemory :
    (ready.hbp.current = none ∧ ready.resetHeld = false)
      ∧ (inState .scan ready).ckc.state = .scan ∧ (inState .recover ready).ckc.state = .recover
      ∧ ((restarting ready).ckc.restartPending = true ∧ (restarting ready).ckc.state ≠ .dormant)
      ∧ ((inState .dormant ready).ckc.waking = false ∧ (waking ready).ckc.waking = true)
      ∧ TakesAtOnce (regionOf .steady one)
      ∧ firstFailedCheck (regionOf .steady one) ⟨60, .write, .one, 0, Beats.zero⟩ = none := by decide

theorem witness_HeldTransactionIsJudgedAgain :
    ready.hbp.current = none
      ∧ (hosting (txn 0 .read .one) .capture .journaled one).hbp.current
        = some ⟨txn 0 .read .one, .capture, .journaled, .refuse⟩
      ∧ (let c : Current := ⟨txn 0 .write .one, .held, .journaled, .refuse⟩;
        (hosting (txn 0 .write .one) .held .journaled (inState .scan one)).hbp.current = some c
          ∧ (hosting (txn 0 .write .one) .held .journaled (inState .halted one)).hbp.current = some c
          ∧ (c.disposition = .held ∨ c.disposition = .gate) ∧ c.cls = .journaled ∧ one.ckc.restartPending = false) := by
  decide

/-- An UNTAKEN transaction that stays so, and ones that are taken: refused by a check, with no byte enabled, and
disposed of (R110). -/
theorem witness_UntakenIsTakenWhenStartUpIsLeft :
    let untaken := fun t : HostTxn => (⟨t, .untaken, .pass, .refuse⟩ : Current)
    let s := hosting (txn 0 .write .one) .untaken .pass (regionOf .journaled one)
    let bad := hosting (txn 1 .read .one) .untaken .pass ready
    let empty := hosting ⟨0, .write, .one, 0, Beats.zero⟩ .untaken .pass ready
    s.hbp.current = some (untaken (txn 0 .write .one)) ∧ (inState .scan s).ckc.state = .scan
      ∧ s.ckc.state ≠ .scan ∧ s.ckc.state ≠ .recover ∧ s.ckc.state ≠ .dormant ∧ s.ckc.restartPending = false
      ∧ s.resetHeld = false ∧ firstFailedCheck s (txn 0 .write .one) = none ∧ isEmptyWrite (txn 0 .write .one) = false
      ∧ bad.hbp.current = some (untaken (txn 1 .read .one))
      ∧ firstFailedCheck bad (txn 1 .read .one) = some .misaligned
      ∧ firstFailedCheck empty ⟨0, .write, .one, 0, Beats.zero⟩ = none := by
  decide

theorem witness_PassThroughMirrorsAndAnswers :
    (txn 0 .read .one).dir = .read ∧ (txn 0 .write .one).dir = .write
      ∧ Awaits .passThrough (awaiting .passThrough (hosting (txn 0 .write .one) .service .journaled ready))
      ∧ (awaiting .passThrough (hosting (txn 0 .write .one) .service .journaled ready)).hbp.current
        = some ⟨txn 0 .write .one, .service, .journaled, .refuse⟩ := by decide

/-! ## Witnesses: the gate and the capture -/

/-- A write of cells 0 and 1 that waits in GATE, under a full policy. -/
def gateWrite (p : FullPolicy) : Current := ⟨txn 0 .write .two, .gate, .journaled, p⟩

def inGate (p : FullPolicy) (s : State) : State := { s with hbp := { s.hbp with current := some (gateWrite p) } }

theorem witness_GateHoldsWritesAndPassesThemAtDepthZero :
    (GateLetsIn (gateWrite .refuse) (inGate .refuse ready) ∧ (inGate .refuse ready).ckc.frames = [])
      ∧ (inState .enter ready).ckc.state ≠ .ready ∧ (queued [⟨.timer, .undo⟩] ready).ckc.queue ≠ []
      ∧ (serving .keep 0 ready).ckc.inService ≠ none
      ∧ ({ ready with ckc := { ready.ckc with faultRequest := true } } : State).ckc.faultRequest = true
      ∧ ({ ready with ckc := { ready.ckc with gateHeld := true } } : State).ckc.gateHeld = true
      ∧ (restarting ready).ckc.restartPending = true ∧ State.reset.resetHeld = true := by decide

/-- One witness for each outcome of the checks: enough free slots, exactly or with some left; nothing to capture;
HEADER_STALE; a spent serial, and the last serials that serve; one slot too few under each policy. -/
theorem witness_GateEntryChecksTheCapture_room :
    let s := inGate .refuse one
    let u := inGate .refuse { one with jmg := { one.jmg with top := 502, nextSerial := 0xFFFFFFFFFFFE } }
    GateLetsIn (gateWrite .refuse) s ∧ s.ckc.frames ≠ [] ∧ s.cpe.capture = none
      ∧ (cellsToCapture s.cpe.captureSet 1 (cellsOf (txn 0 .write .two))).length = 2 ∧ s.jmg.headerStale = false
      ∧ GateLetsIn (gateWrite .refuse) u ∧ freeSlots u = 2 ∧ u.jmg.nextSerial + 2 - 1 = 0xFFFFFFFFFFFF := by
  decide +kernel

theorem witness_GateEntryChecksTheCapture_none :
    let s := inGate .refuse { one with cpe := { Cpe.reset with captureSet := [⟨0, 1⟩, ⟨4, 1⟩] } }
    GateLetsIn (gateWrite .refuse) s ∧ s.cpe.capture = none
      ∧ cellsToCapture s.cpe.captureSet 1 (cellsOf (txn 0 .write .two)) = [] := by decide +kernel

theorem witness_GateEntryChecksTheCapture_refused :
    let s := inGate .refuse { one with jmg := { one.jmg with headerStale := true } }
    let u := inGate .refuse { one with jmg := { one.jmg with nextSerial := 0xFFFFFFFFFFFF } }
    GateLetsIn (gateWrite .refuse) s ∧ s.jmg.headerStale = true
      ∧ GateLetsIn (gateWrite .refuse) u ∧ u.jmg.nextSerial + 2 - 1 > 0xFFFFFFFFFFFF := by decide +kernel

theorem witness_GateEntryChecksTheCapture_full :
    let s := inGate .refuse { one with jmg := { one.jmg with top := 503 } }
    let u := inGate .breach { one with jmg := { one.jmg with top := 503 } }
    GateLetsIn (gateWrite .refuse) s ∧ freeSlots s = 1
      ∧ GateLetsIn (gateWrite .breach) u ∧ freeSlots u = 1 ∧ (gateWrite .breach).policy = .breach := by decide +kernel

/-- A capture of cells 0 and 4 at level 1, in a step, with some records complete. -/
def capturing (st : CaptureStep) (done : Nat) : Capture :=
  ⟨txn 0 .write .two, 1, .refuse, st, [0, 4], 2, [Cell.zero, Cell.zero], done, false⟩

def inCapture (p : Purpose) (st : CaptureStep) (done : Nat) : State :=
  awaiting p
    (hosting (txn 0 .write .two) .capture .journaled { one with cpe := { Cpe.reset with capture := some (capturing st done) } })

theorem witness_RecordsAreWrittenBeforeTheHostWrite :
    (Awaits .preImageRead (inCapture .preImageRead .read 0)
        ∧ (inCapture .preImageRead .read 0).cpe.capture = some (capturing .read 0)
        ∧ (inCapture .preImageRead .read 0).hbp.current = some ⟨txn 0 .write .two, .capture, .journaled, .refuse⟩
        ∧ (capturing .read 0).appended = 0)
      ∧ (Awaits .append (inCapture .append .append 0) ∧ (capturing .append 0).appended + 1 < (capturing .append 0).reserved)
      ∧ (Awaits .append (inCapture .append .append 1)
        ∧ (capturing .append 1).reserved ≤ (capturing .append 1).appended + 1) := by decide

theorem witness_CaptureEndsWithEntriesForItsRecords :
    (Awaits .captureWrite (inCapture .captureWrite .write 2)
        ∧ (inCapture .captureWrite .write 2).cpe.capture = some (capturing .write 2)
        ∧ (inCapture .captureWrite .write 2).hbp.current = some ⟨txn 0 .write .two, .capture, .journaled, .refuse⟩)
      ∧ (Awaits .append (inCapture .append .append 1)
        ∧ (inCapture .append .append 1).cpe.capture = some (capturing .append 1)) := by decide

theorem witness_CaptureSetFollowsItsRules :
    ([0, 4] : List Addr).Nodup
      ∧ (⟨0, 1⟩ : CaptureEntry) ∉ [⟨0, 2⟩] ∧ (⟨4, 1⟩ : CaptureEntry) ∉ [⟨0, 2⟩]
      ∧ 1 ≤ 2 ∧ ([⟨0, 1⟩, ⟨0, 2⟩, ⟨4, 2⟩] : List CaptureEntry).Nodup := by decide

/-! ## Witnesses: header writes and commands -/

theorem witness_HeaderWriteAlternatesCopies :
    (ready.ckc.restartPending = false ∧ ready.jmg.headerWrite = none)
      ∧ (halfOut .sync false ready).jmg.headerWrite ≠ none
      ∧ (Awaits .headerHalf (halfOut .sync false ready)
        ∧ (halfOut .sync false ready).jmg.headerWrite = some (aHeader .sync false) ∧ (aHeader .sync false).second = false) := by
  decide

/-- A MARK's header that waits behind a SYNC write (R64). -/
theorem witness_WaitingHeaderIsIssued :
    let s := halfOut .sync true { one with jmg := { one.jmg with headerWaiting := some ⟨.markOpening, cleanHeader⟩ } }
    Awaits .headerHalf s ∧ s.jmg.headerWrite = some (aHeader .sync true) ∧ (aHeader .sync true).purpose = .sync
      ∧ s.jmg.headerWaiting = some ⟨.markOpening, cleanHeader⟩ ∧ (aHeader .sync true).second = true
      ∧ s.ckc.restartPending = false ∧ (restarting s).ckc.restartPending = true := by
  decide

/-- The MARK's header is issued to the other copy when the SYNC write fails (R62, R64). -/
theorem test_waiting_header_after_failure :
    let s := halfOut .sync true
      { one with jmg := { one.jmg with current := some .b, headerWaiting := some ⟨.markOpening, cleanHeader⟩ } }
    (after (.headerHalfWriteEnd .error) s).jmg.headerWrite.map (fun w => (w.purpose, w.copy, w.second))
        = some (.markOpening, .a, false)
      ∧ (after (.headerHalfWriteEnd .error) s).jmg.headerWaiting = none := by
  decide +kernel

/-- Eight frames. -/
def eight : State := opened (List.replicate 8 frame1) ready

theorem witness_ChecksDecideACommandAtOnce :
    (let s := queued [⟨.service, .mark 5⟩] eight;
      MayTake s ∧ s.ckc.startUp = false ∧ s.ckc.frames.length = 8)
      ∧ (let s := queued [⟨.strobe, .undo⟩] ready;
        MayTake s ∧ s.ckc.frames = [])
      ∧ (let s := queued [⟨.timer, .undoTo 9⟩] (inState .await one);
        MayTake s ∧ ∀ f ∈ s.ckc.frames, f.id ≠ 9)
      ∧ MayTake (queued [⟨.service, .mark 5⟩] (inState .unformatted ready))
      ∧ MayTake (queued [⟨.service, .keep⟩] (inState .bypass ready))
      ∧ (ready.ckc.queue = [] ∧ (serving .keep 0 ready).ckc.inService ≠ none
        ∧ ({ ready with ckc := { ready.ckc with gateHeld := true } } : State).ckc.gateHeld = true
        ∧ (restarting ready).ckc.restartPending = true
        ∧ ({ ready with ckc := { ready.ckc with faultRequest := true } } : State).ckc.faultRequest = true
        ∧ ((inState .merge ready).ckc.state ≠ .ready ∧ (inState .merge ready).ckc.state ≠ .await)) := by decide

theorem witness_PassedChecksStartTheCommand :
    let m := queued [⟨.service, .mark 5⟩] (opened (List.replicate 7 frame1) ready)
    let k := queued [⟨.strobe, .keep⟩] two
    let c := queued [⟨.strobe, .keep⟩] (inState .await one)
    MayTake m ∧ m.ckc.state = .ready ∧ m.ckc.startUp = false ∧ m.ckc.frames.length < 8
      ∧ MayTake k ∧ 2 ≤ k.ckc.frames.length
      ∧ MayTake c ∧ c.ckc.state = .await ∧ c.ckc.frames.length = 1 := by decide

theorem witness_PassedChecksStartTheCommand_undo :
    let u := queued [⟨.strobe, .undo⟩] one
    let a := queued [⟨.service, .undoAll⟩] two
    let t := queued [⟨.timer, .undoTo 8⟩] two
    MayTake u ∧ 1 ≤ u.ckc.frames.length ∧ MayTake a ∧ 1 ≤ a.ckc.frames.length
      ∧ MayTake t ∧ (t.ckc.frames.map Frame.id)[1]? = some 8 ∧ (t.ckc.frames.map Frame.id)[0]? = some 7 := by decide

theorem witness_FaultRequestUndoesEverything :
    let asked := fun s : State => ({ s with ckc := { s.ckc with faultRequest := true } } : State)
    let held := fun s : State => ({ s with ckc := { s.ckc with gateHeld := true } } : State)
    (asked two).ckc.faultRequest = true ∧ two.ckc.restartPending = false ∧ two.resetHeld = false
      ∧ two.ckc.startUp = false ∧ (two.ckc.state = .ready ∨ two.ckc.state = .await) ∧ two.ckc.gateHeld = false
      ∧ two.ckc.frames ≠ [] ∧ ready.ckc.frames = [] ∧ (held (asked two)).ckc.gateHeld = true := by decide

theorem witness_MarkPushesItsFrame :
    let s := halfOut .markOpening true (serving (.mark 5) 0 (opened (List.replicate 7 frame1) (inState .enter ready)))
    SecondHalf .markOpening (aHeader .markOpening true) s ∧ s.ckc.inService = some ⟨.service, .mark 5, 0⟩
      ∧ s.ckc.frames.length < 8 ∧ s.ckc.startUp = false := by decide

/-- A MARK whose header completes under a pending restart pushes its frame and records nothing (R25, R94). -/
theorem test_mark_under_restart :
    let s := restarting (halfOut .markOpening true (serving (.mark 5) 0 (inState .enter one)))
    (after (.headerHalfWriteEnd .done) s).ckc.frames.length = 2
      ∧ (after (.headerHalfWriteEnd .done) s).ckc.last = s.ckc.last := by
  decide +kernel

theorem witness_KeepMergesOrCommitsTheTopLevel :
    let s := halfOut .keepHeader true (serving .keep 0 (inState .merge two))
    let u := halfOut .keepHeader true (serving .keep 0 (inState .merge one))
    SecondHalf .keepHeader (aHeader .keepHeader true) s ∧ s.ckc.inService = some ⟨.service, .keep, 0⟩
      ∧ s.ckc.frames.getLast? = some frame2 ∧ s.ckc.startUp = false
      ∧ SecondHalf .keepHeader (aHeader .keepHeader true) u ∧ u.ckc.frames.getLast? = some frame1 := by decide

theorem witness_FailedHeaderLeavesTheStack :
    let s := halfOut .markOpening false (serving (.mark 5) 0 (inState .enter one))
    let u := halfOut .keepHeader true (serving .keep 0 (inState .merge one))
    s.ckc.inService = some ⟨.service, .mark 5, 0⟩ ∧ s.ckc.startUp = false
      ∧ EitherHalf .markOpening (aHeader .markOpening false) s
      ∧ u.ckc.inService = some ⟨.service, .keep, 0⟩ ∧ EitherHalf .keepHeader (aHeader .keepHeader true) u
      ∧ u.ckc.frames.getLast? = some frame1 := by decide

/-! ## Witnesses: undo -/

/-- RPE with a source and a target, in REPLAY. -/
def undoing (src : Source) (t : Nat) (s : State) : State :=
  { s with rpe := { s.rpe with source := src, target := t, serialBound := 4 }, ckc := { s.ckc with state := .replay } }

theorem witness_OpeningHeaderBeginsTheWalk :
    let s := halfOut .undoOpening true (serving .undo 0 (undoing .service 0 one))
    let u := halfOut .undoOpening false (inState .recover (undoing .start 0 one))
    SecondHalf .undoOpening (aHeader .undoOpening true) s
      ∧ (EitherHalf .undoOpening (aHeader .undoOpening false) u ∧ u.rpe.source = .start)
      ∧ (EitherHalf .undoOpening (aHeader .undoOpening true) s ∧ s.rpe.source ≠ .start ∧ s.ckc.startUp = false
        ∧ s.ckc.inService = some ⟨.service, .undo, 0⟩ ∧ s.ckc.frames[0]? = some frame1) := by decide

/-- A record of cell 16 with serial 3, and the beats of its slot. -/
def record3 : Record := ⟨16, ⟨1, 2, 3, 4⟩, 3⟩

def record3Beats : Beats :=
  #v[⟨0x5A, 0x10, 0x00, 0x00⟩, ⟨0x01, 0x02, 0x03, 0x04⟩, ⟨0x03, 0x00, 0x00, 0x00⟩, ⟨0x00, 0x00, 0x4E, 0x21⟩, Cell.zero,
    Cell.zero, Cell.zero, Cell.zero]

theorem test_record_bytes : recordBytes record3 = bytesOfCells (takeBeats 4 record3Beats) := by decide +kernel

theorem witness_ReplayRestoresValidSlotsOnly :
    let s := awaiting .replaySlotRead (undoing .service 0 one)
    Awaits .replaySlotRead s ∧ s.ckc.restartPending = false
      ∧ slotValidates (journalBase s.straps) (bytesOfCells ((Vector.toList record3Beats).take 4)) = true
      ∧ (recordOfBytes (bytesOfCells ((Vector.toList record3Beats).take 4))).serial < s.rpe.serialBound
      ∧ slotValidates (journalBase s.straps) (bytesOfCells ((Vector.toList Beats.zero).take 4)) = false := by
  decide +kernel

theorem witness_RestoreLowersTopAndWalksOn :
    let s := awaiting .restore { undoing .service 0 one with rpe := { (undoing .service 0 one).rpe with record := some record3 } }
    let u := { s with jmg := { s.jmg with top := 2 } }
    Awaits .restore s ∧ s.rpe.record = some record3 ∧ s.rpe.retargetPending = false
      ∧ s.ckc.frames.getLast? = some frame1 ∧ frame1.start = s.jmg.top - 1 ∧ s.ckc.frames.length = s.rpe.target + 1
      ∧ Awaits .restore u ∧ frame1.start ≠ u.jmg.top - 1 ∧ u.ckc.restartPending = false := by decide

/-- Walk heads: retarget pending, at a restore too; level 2 popped and level 1 at its start; a slot to read (R73). -/
theorem witness_WalkPopsTheEmptyLevels :
    let s := awaiting .restore
      { undoing .service 0 two with rpe := { (undoing .service 0 two).rpe with record := some record3, retargetPending := true } }
    let u := undoing .service 0 (opened [frame1, { frame2 with start := 0 }] ready)
    let ended := { u with jmg := { u.jmg with top := 0 } }
    (Awaits .restore s ∧ s.rpe.record = some record3 ∧ s.rpe.retargetPending = true)
      ∧ (ended.rpe.retargetPending = false ∧ (popEmptyLevels 2 ended).ckc.frames.length = ended.rpe.target + 1
        ∧ ((popEmptyLevels 2 ended).ckc.frames.getLast?).map Frame.start = some ended.jmg.top)
      ∧ (u.rpe.retargetPending = false ∧ (popEmptyLevels 2 u).ckc.frames.length ≠ u.rpe.target + 1) := by
  decide

theorem witness_ClosingHeaderEndsTheUndo :
    let s := halfOut .closing true (serving .undo 0 (undoing .service 0 one))
    let u := { halfOut .closing false (undoing .start 0 one) with ckc := { (undoing .start 0 one).ckc with startUp := true } }
    (s.rpe.retargetPending = false ∧ s.ckc.frames.getLast? = some frame1 ∧ EitherHalf .closing (aHeader .closing true) s
        ∧ (WriteEnding.done = .done → (aHeader .closing true).second = true)
        ∧ s.ckc.inService = some ⟨.service, .undo, 0⟩ ∧ s.ckc.startUp = false)
      ∧ (u.rpe.retargetPending = false ∧ EitherHalf .closing (aHeader .closing false) u
        ∧ (WriteEnding.error = .done → (aHeader .closing false).second = true)
        ∧ u.ckc.inService = none ∧ u.ckc.startUp = true) := by decide

/-- A closing header that ends with retarget pending (R77). -/
theorem witness_ClosingHeaderWithRetargetPending :
    let u := undoing .service 0 two
    let s := halfOut .closing true { u with rpe := { u.rpe with retargetPending := true } }
    s.rpe.retargetPending = true ∧ s.ckc.frames.getLast? = some frame2
      ∧ EitherHalf .closing (aHeader .closing true) s := by
  decide

/-- An undo that ends under a pending restart leaves READY behind it, and neither DONE nor a record (R89, R94). -/
theorem test_undo_under_restart :
    let t := after (.headerHalfWriteEnd .done) (restarting (halfOut .closing true (serving .undo 0 (undoing .service 0 one))))
    t.ckc.state = .ready ∧ t.ckc.frames = [] ∧ t.ckc.last = one.ckc.last ∧ flagSet .done t = false := by
  decide +kernel

theorem witness_RetargetAbandonAndSyncHeadersEnd :
    let s := halfOut .retarget true (undoing .service 0 two)
    let u := { s with rpe := { s.rpe with skipOwed := true } }
    let a := halfOut .abandon true (serving .undo 0 (inState .halted one))
    SecondHalf .retarget (aHeader .retarget true) s ∧ s.rpe.skipOwed = false ∧ s.jmg.headerStale = false
      ∧ SecondHalf .retarget (aHeader .retarget true) u ∧ u.rpe.skipOwed = true
      ∧ EitherHalf .retarget (aHeader .retarget true) s
      ∧ SecondHalf .abandon (aHeader .abandon true) a ∧ a.ckc.inService = some ⟨.service, .undo, 0⟩
      ∧ a.ckc.startUp = false ∧ a.ckc.frames.head? = some frame1
      ∧ EitherHalf .abandon (aHeader .abandon true) a ∧ a.jmg.headerStale = false
      ∧ SecondHalf .sync (aHeader .sync true) (halfOut .sync true one)
      ∧ EitherHalf .sync (aHeader .sync false) (halfOut .sync false one) := by decide

/-- ABANDON of a start-up replay, and header writes that fail with HEADER_STALE already set (R65, R88, R105). -/
theorem witness_AbandonInStartUpAndStaleHeaders :
    let u := inState .halted (undoing .start 0 one)
    let a := halfOut .abandon true { u with ckc := { u.ckc with startUp := true } }
    let r := halfOut .retarget false (undoing .service 0 two)
    SecondHalf .abandon (aHeader .abandon true) a ∧ a.ckc.frames.head? = some frame1
      ∧ a.ckc.inService = none ∧ a.ckc.startUp = true
      ∧ EitherHalf .abandon (aHeader .abandon true) { a with jmg := { a.jmg with headerStale := true } }
      ∧ EitherHalf .retarget (aHeader .retarget false) { r with jmg := { r.jmg with headerStale := true } } := by
  decide

/-- A slot that validates does not restore under a pending restart: no write is presented (R74, R94). -/
theorem witness_SlotReadEndsUnderRestart :
    let s := restarting (awaiting .replaySlotRead (undoing .service 0 one))
    Awaits .replaySlotRead s ∧ s.ckc.restartPending = true
      ∧ (after (.replaySlotReadEnd (.done record3Beats)) s).mbp.waitEngine = none := by
  decide +kernel

/-! ## Witnesses: wipe and start-up -/

theorem witness_WipeZeroesEverySlotPair :
    let w := fun c : Nat => inState .wipe { ready with jmg := { ready.jmg with wipeCursor := c } }
    ready.ckc.restartPending = false
      ∧ (Awaits .wipeSlots (awaiting .wipeSlots (w 500)) ∧ (w 500).jmg.wipeCursor + 2 < capacity (w 500).straps)
      ∧ (Awaits .wipeSlots (awaiting .wipeSlots (w 502)) ∧ capacity (w 502).straps ≤ (w 502).jmg.wipeCursor + 2)
      ∧ (SecondHalf .wipeOpening (aHeader .wipeOpening true) (halfOut .wipeOpening true (w 0))
        ∧ (w 0).jmg.wipeCursor < capacity (w 0).straps)
      ∧ (SecondHalf .wipeClosing (aHeader .wipeClosing true) (halfOut .wipeClosing true (w 504))
        ∧ (w 504).ckc.startUp = false)
      ∧ EitherHalf .wipeOpening (aHeader .wipeOpening false) (halfOut .wipeOpening false (w 0))
      ∧ EitherHalf .wipeClosing (aHeader .wipeClosing false) (halfOut .wipeClosing false (w 504)) := by decide

/-- The closing header of a start-up wipe, and zeroing writes that end under a pending restart, before and at the last
pair (R94, R105). -/
theorem witness_WipeInStartUpAndUnderRestart :
    let w := fun c : Nat => inState .wipe { ready with jmg := { ready.jmg with wipeCursor := c } }
    let s := halfOut .wipeClosing true { w 504 with ckc := { (w 504).ckc with startUp := true } }
    (SecondHalf .wipeClosing (aHeader .wipeClosing true) s ∧ s.ckc.startUp = true ∧ s.ckc.restartPending = false)
      ∧ (restarting (awaiting .wipeSlots (w 500))).ckc.restartPending = true
      ∧ Awaits .wipeSlots (restarting (awaiting .wipeSlots (w 500)))
      ∧ (w 500).jmg.wipeCursor + 2 < capacity (w 500).straps
      ∧ capacity (w 502).straps ≤ (w 502).jmg.wipeCursor + 2 := by
  decide

/-- SCAN after some header reads, start-up in progress. -/
def scanning (x : Scan) (p : Purpose) (st : Straps) (s : State) : State :=
  awaiting p
    { s with
      straps := st
      ckc := { s.ckc with state := .scan, startUp := true }
      jmg := { s.jmg with scan := x } }


/-- The CRC-16 of a list from that of five pieces of it, each short enough for the kernel. -/
theorem crc_in_pieces {bs p1 p2 p3 p4 p5 : List Byte} {c1 c2 c3 c4 c5 : BitVec 16}
    (h : bs = p1 ++ p2 ++ p3 ++ p4 ++ p5) (h1 : p1.foldl crcByte 0xFFFF#16 = c1) (h2 : p2.foldl crcByte c1 = c2)
    (h3 : p3.foldl crcByte c2 = c3) (h4 : p4.foldl crcByte c3 = c4) (h5 : p5.foldl crcByte c4 = c5) :
    crc16 bs = c5 := by
  simp only [crc16, h, List.foldl_append, h1, h2, h3, h4, h5]

/-- A header copy with the CRC of its body, whose fields read back and are legal, is valid and is selected before an
empty copy B (R60, R96). -/
theorem copy_selected {h : Header} {c : BitVec 16} {bs : List Byte} (hc : crc16 (headerBody h) = c)
    (body : bs.take 62 = headerBody h) (read : headerOfBytes bs = some h) (legal : headerLegal 504 h = true)
    (tests : bs.getD 0 0 = 0xC7 ∧ bs.getD 1 0 = 0x4D ∧ fieldAt bs 62 2 = c.toNat) (len : bs.length = 64) :
    selectCopy
      (validHeader 504 (((bs ++ List.replicate 32 0) ++ bytesOfCells (Vector.toList Beats.zero)).take 64))
      (validHeader 504 (((bs ++ List.replicate 32 0) ++ bytesOfCells (Vector.toList Beats.zero)).drop 64))
        = some (.a, h) := by
  have valid : validHeader 504 bs = some h := by
    simp only [validHeader, body, hc, read, legal]
    rw [if_pos tests]
    rfl
  have blank : validHeader 504 (List.replicate 32 0 ++ bytesOfCells (Vector.toList Beats.zero)) = none := by
    decide +kernel
  rw [List.append_assoc, List.take_left' len, List.drop_left' len, valid, blank]
  rfl

/-- Header copies of generation 1 in each state, with their checks worked out by R198. -/
def cleanCopy : List Byte :=
  [0xC7, 0x4D, 1, 0, 0, 0, 0, 0, 0, 0, 0, 0, 0, 0] ++ [0, 0, 0, 0, 0, 0, 0, 0] ++ List.replicate 40 0
    ++ [0xC4, 0xD0]

def openCopy : List Byte :=
  [0xC7, 0x4D, 1, 0, 0, 0, 1, 1, 0, 0, 1, 0, 3, 0] ++ [0, 0, 0, 0, 0, 0, 5, 0] ++ List.replicate 40 0
    ++ [0x10, 0x14]

def replayingCopy : List Byte :=
  [0xC7, 0x4D, 1, 0, 0, 0, 2, 1, 0, 0, 1, 0, 3, 0] ++ [0, 0, 0, 0, 0, 0, 5, 0] ++ List.replicate 40 0
    ++ [0x59, 0xD6]

def wipingCopy : List Byte :=
  [0xC7, 0x4D, 1, 0, 0, 0, 3, 0, 0, 0, 0, 0, 0, 0] ++ [0, 0, 0, 0, 0, 0, 0, 0] ++ List.replicate 40 0
    ++ [0x8D, 0x12]

/-- An OPEN copy whose top is the capacity of PL 0. -/
def fullCopy : List Byte :=
  [0xC7, 0x4D, 1, 0, 0, 0, 1, 1, 0, 0, 0xF8, 1, 3, 0] ++ [0, 0, 0, 0, 0, 0, 5, 0] ++ List.replicate 40 0
    ++ [0x49, 0xF8]

theorem witness_ScanSelects_clean :
    selectCopy
      (validHeader 504 (((cleanCopy ++ List.replicate 32 0) ++ bytesOfCells (Vector.toList Beats.zero)).take 64))
      (validHeader 504 (((cleanCopy ++ List.replicate 32 0) ++ bytesOfCells (Vector.toList Beats.zero)).drop 64))
        = some (.a, ⟨1, cleanHeader, 0⟩) :=
  copy_selected (c := 53444#16)
    (crc_in_pieces (p1 := [0xC7, 0x4D, 1, 0, 0, 0, 0, 0, 0, 0, 0, 0, 0, 0])
      (p2 := [0, 0, 0, 0, 0, 0, 0, 0] ++ List.replicate 6 0) (p3 := List.replicate 14 0)
      (p4 := List.replicate 14 0) (p5 := List.replicate 6 0) (c1 := 47004#16) (c2 := 53667#16) (c3 := 38458#16) (c4 := 8366#16)
      (by decide +kernel) (by decide +kernel) (by decide +kernel) (by decide +kernel) (by decide +kernel)
      (by decide +kernel))
    (by decide +kernel) (by decide +kernel) (by decide +kernel) (by decide +kernel) (by decide +kernel)

theorem witness_ScanSelects_open :
    selectCopy
      (validHeader 504 (((openCopy ++ List.replicate 32 0) ++ bytesOfCells (Vector.toList Beats.zero)).take 64))
      (validHeader 504 (((openCopy ++ List.replicate 32 0) ++ bytesOfCells (Vector.toList Beats.zero)).drop 64))
        = some (.a, ⟨1, ⟨.opened, 1, 0, 0, 1, [⟨0, 5⟩]⟩, 3⟩) :=
  copy_selected (c := 5136#16)
    (crc_in_pieces (p1 := [0xC7, 0x4D, 1, 0, 0, 0, 1, 1, 0, 0, 1, 0, 3, 0])
      (p2 := [0, 0, 0, 0, 0, 0, 5, 0] ++ List.replicate 6 0) (p3 := List.replicate 14 0)
      (p4 := List.replicate 14 0) (p5 := List.replicate 6 0) (c1 := 27593#16) (c2 := 14671#16) (c3 := 20656#16) (c4 := 25396#16)
      (by decide +kernel) (by decide +kernel) (by decide +kernel) (by decide +kernel) (by decide +kernel)
      (by decide +kernel))
    (by decide +kernel) (by decide +kernel) (by decide +kernel) (by decide +kernel) (by decide +kernel)

theorem witness_ScanSelects_full :
    selectCopy
      (validHeader 504 (((fullCopy ++ List.replicate 32 0) ++ bytesOfCells (Vector.toList Beats.zero)).take 64))
      (validHeader 504 (((fullCopy ++ List.replicate 32 0) ++ bytesOfCells (Vector.toList Beats.zero)).drop 64))
        = some (.a, ⟨1, ⟨.opened, 1, 0, 0, 504, [⟨0, 5⟩]⟩, 3⟩) :=
  copy_selected (c := 63561#16)
    (crc_in_pieces (p1 := [0xC7, 0x4D, 1, 0, 0, 0, 1, 1, 0, 0, 0xF8, 1, 3, 0])
      (p2 := [0, 0, 0, 0, 0, 0, 5, 0] ++ List.replicate 6 0) (p3 := List.replicate 14 0)
      (p4 := List.replicate 14 0) (p5 := List.replicate 6 0) (c1 := 12483#16) (c2 := 13139#16) (c3 := 21850#16) (c4 := 42612#16)
      (by decide +kernel) (by decide +kernel) (by decide +kernel) (by decide +kernel) (by decide +kernel)
      (by decide +kernel))
    (by decide +kernel) (by decide +kernel) (by decide +kernel) (by decide +kernel) (by decide +kernel)

theorem witness_ScanSelects_replaying :
    selectCopy
      (validHeader 504 (((replayingCopy ++ List.replicate 32 0) ++ bytesOfCells (Vector.toList Beats.zero)).take 64))
      (validHeader 504 (((replayingCopy ++ List.replicate 32 0) ++ bytesOfCells (Vector.toList Beats.zero)).drop 64))
        = some (.a, ⟨1, ⟨.replaying, 1, 0, 0, 1, [⟨0, 5⟩]⟩, 3⟩) :=
  copy_selected (c := 54873#16)
    (crc_in_pieces (p1 := [0xC7, 0x4D, 1, 0, 0, 0, 2, 1, 0, 0, 1, 0, 3, 0])
      (p2 := [0, 0, 0, 0, 0, 0, 5, 0] ++ List.replicate 6 0) (p3 := List.replicate 14 0)
      (p4 := List.replicate 14 0) (p5 := List.replicate 6 0) (c1 := 41916#16) (c2 := 36647#16) (c3 := 11123#16) (c4 := 21934#16)
      (by decide +kernel) (by decide +kernel) (by decide +kernel) (by decide +kernel) (by decide +kernel)
      (by decide +kernel))
    (by decide +kernel) (by decide +kernel) (by decide +kernel) (by decide +kernel) (by decide +kernel)

theorem witness_ScanSelects_wiping :
    selectCopy
      (validHeader 504 (((wipingCopy ++ List.replicate 32 0) ++ bytesOfCells (Vector.toList Beats.zero)).take 64))
      (validHeader 504 (((wipingCopy ++ List.replicate 32 0) ++ bytesOfCells (Vector.toList Beats.zero)).drop 64))
        = some (.a, ⟨1, wipingHeader, 0⟩) :=
  copy_selected (c := 4749#16)
    (crc_in_pieces (p1 := [0xC7, 0x4D, 1, 0, 0, 0, 3, 0, 0, 0, 0, 0, 0, 0])
      (p2 := [0, 0, 0, 0, 0, 0, 0, 0] ++ List.replicate 6 0) (p3 := List.replicate 14 0)
      (p4 := List.replicate 14 0) (p5 := List.replicate 6 0) (c1 := 32745#16) (c2 := 26571#16) (c3 := 60921#16) (c4 := 5684#16)
      (by decide +kernel) (by decide +kernel) (by decide +kernel) (by decide +kernel) (by decide +kernel)
      (by decide +kernel))
    (by decide +kernel) (by decide +kernel) (by decide +kernel) (by decide +kernel) (by decide +kernel)

/-- SCAN before its second half read, before its last half read with copy A read in each state and half of an empty
copy B, and before it with nothing valid, under each kind of policy. -/
theorem witness_ScanReadsAndSelectsTheHeader :
    let first := scanning (.headers 0 []) .scanHeaderRead ⟨0, 0, 0⟩ ready
    let clean := scanning (.headers 3 (cleanCopy ++ List.replicate 32 0)) .scanHeaderRead ⟨0, 0, 0⟩ ready
    let found := fun copy rp => scanning (.headers 3 (copy ++ List.replicate 32 0)) .scanHeaderRead ⟨0, rp, 0⟩ ready
    let blank := fun rp => scanning (.headers 3 (List.replicate 96 0)) .scanHeaderRead ⟨0, rp, 0⟩ ready
    (Awaits .scanHeaderRead first ∧ first.jmg.scan = .headers 0 [] ∧ first.ckc.restartPending = false)
      ∧ (Awaits .scanHeaderRead clean ∧ clean.jmg.scan = .headers 3 (cleanCopy ++ List.replicate 32 0)
        ∧ clean.ckc.startUp = true ∧ cleanHeader.state = .clean ∧ clean.jmg.failedCopies = ⟨false, false⟩)
      ∧ (Awaits .scanHeaderRead (found openCopy 0) ∧ policy (found openCopy 0).straps ≠ .discard
        ∧ policy (found openCopy 2).straps = .discard ∧ Awaits .scanHeaderRead (found replayingCopy 2)
        ∧ Awaits .scanHeaderRead (found wipingCopy 1) ∧ 1 < capacity (found openCopy 0).straps)
      ∧ (Awaits .scanHeaderRead (blank 0) ∧ policy (blank 0).straps ≠ .discard
        ∧ policy (blank 2).straps = .discard ∧ (blank 2).jmg.scan = .headers 3 (List.replicate 96 0)) := by
  decide +kernel

/-- A selected OPEN header whose top is capacity, before its last half read, under each policy that rebuilds the stack. -/
theorem witness_ScanFindsTheSlotsFull :
    let at_ := fun rp => scanning (.headers 3 (fullCopy ++ List.replicate 32 0)) .scanHeaderRead ⟨0, rp, 0⟩ ready
    capacity (at_ 0).straps ≤ 504 ∧ (at_ 0).ckc.startUp = true ∧ Awaits .scanHeaderRead (at_ 0)
      ∧ (at_ 0).ckc.restartPending = false ∧ policy (at_ 0).straps ≠ .discard ∧ policy (at_ 0).straps ≠ .hold
      ∧ policy (at_ 1).straps = .hold := by
  decide +kernel

theorem witness_ScanFindsNoHeader :
    selectCopy (validHeader 504 ((List.replicate 128 0).take 64)) (validHeader 504 ((List.replicate 128 0).drop 64))
      = none := by decide +kernel

/-- A failed header write marks its copy through a RESTART; the next write to it that completes, or a POR, clears the
mark, and a write to the other copy does not (R61). -/
theorem test_failed_copy_stays_marked :
    let s := after (.headerHalfWriteEnd .error) (halfOut .sync true ready)
    s.jmg.failedCopies = ⟨true, false⟩
      ∧ (after .restartEffect (restarting s)).jmg.failedCopies = ⟨true, false⟩
      ∧ (after (.headerHalfWriteEnd .done) (halfOut .sync true s)).jmg.failedCopies = ⟨false, false⟩
      ∧ (after .por s).jmg.failedCopies = ⟨false, false⟩
      ∧ (headerFailed { aHeader .sync true with copy := .b } s).jmg.failedCopies = ⟨true, true⟩ := by
  decide +kernel

/-- SCAN passes over copy A, whose bytes are valid, when a failed write has reached it: with nothing in copy B the part
is UNFORMATTED (R61, R96). -/
theorem witness_ScanPassesOverAFailedCopy :
    let s := scanning (.headers 3 (cleanCopy ++ List.replicate 32 0)) .scanHeaderRead ⟨0, 0, 0⟩
      { ready with jmg := { ready.jmg with failedCopies := ⟨true, false⟩ } }
    Awaits .scanHeaderRead s ∧ s.jmg.failedCopies.a = true ∧ s.ckc.restartPending = false ∧ s.ckc.startUp = true
      ∧ (after (.scanHeaderReadEnd (.done Beats.zero)) s).ckc.state = .unformatted
      ∧ (after (.scanHeaderReadEnd (.done Beats.zero)) s).jmg.current = none := by
  decide +kernel

/-- Generations of the distances 1, 2^31 − 1, 0, 2^31 and 2^32 − 1 (R63). -/
theorem test_generation_distances :
    generationGreater 1 0 = true ∧ generationGreater 0x7FFFFFFF 0 = true ∧ generationGreater 5 5 = false
      ∧ generationGreater 0x80000005 5 = false ∧ generationGreater 4 5 = false := by decide

/-- An OPEN header of the next serial 3. -/
def openHeader : Header := ⟨1, ⟨.opened, 1, 0, 0, 1, [⟨0, 5⟩]⟩, 3⟩

theorem witness_SlotScanRebuildsStackAndTop :
    let at_ := fun (i : Nat) (last : Option Nat) (rp : BitVec 2) =>
      scanning (.slots i last openHeader) .scanSlotRead ⟨0, rp, 0⟩ one
    let bs := bytesOfCells ((Vector.toList record3Beats).take 4)
    (Awaits .scanSlotRead (at_ 0 none 0) ∧ (at_ 0 none 0).ckc.restartPending = false
        ∧ slotValidates (journalBase (at_ 0 none 0).straps) bs = true ∧ openHeader.serial ≤ (recordOfBytes bs).serial
        ∧ 0 + 1 < capacity (at_ 0 none 0).straps)
      ∧ slotValidates 0x3FE000 (bytesOfCells ((Vector.toList Beats.zero).take 4)) = false
      ∧ ¬ 3 < (recordOfBytes bs).serial
      ∧ openHeader.fields.state = .opened ∧ policy (at_ 1 (some 3) 1).straps = .hold
      ∧ policy (at_ 1 (some 3) 0).straps ≠ .hold ∧ (at_ 1 (some 3) 1).ckc.startUp = true
      ∧ openHeader.fields.entries.length ≤ 8 := by decide +kernel

/-- An accepted slot at the last index, after which the scan ends with top at capacity. -/
theorem witness_SlotScanEndsAtCapacity :
    let s := scanning (.slots 503 none openHeader) .scanSlotRead ⟨0, 0, 0⟩ one
    Awaits .scanSlotRead s ∧ s.jmg.scan = .slots 503 none openHeader ∧ s.ckc.startUp = true
      ∧ capacity s.straps ≤ 503 + 1 := by decide

/-! ## Witnesses: formats -/

theorem witness_HeaderReadsBackAsWritten :
    headerLegal 504 openHeader = true ∧ headerLegal 504 ⟨1, cleanHeader, 0xFFFFFFFFFFFF⟩ = true
      ∧ openHeader.fields.entries.length = openHeader.fields.depth ∧ openHeader.serial < 2 ^ 48
      ∧ cleanHeader.entries.length = cleanHeader.depth := by decide +kernel

theorem witness_RecordReadsBackAsWritten :
    record3.cell.toNat % 4 = 0 ∧ record3.cell.toNat < 0x3FE000 ∧ record3.serial < 2 ^ 48 := by decide

/-- A slot passes the tests at a base just above its cell address, and not at the address itself (R52, test 4). -/
theorem test_slot_below_base :
    slotValidates 17 (recordBytes record3) = true ∧ slotValidates 16 (recordBytes record3) = false := by
  decide +kernel

/-- A copy whose marker is wrong in its second byte is not valid (R60, test 1). -/
theorem test_marker_of_copy :
    validHeader 504 ([0xC7, 0x4C] ++ (headerBytes ⟨1, cleanHeader, 0⟩).drop 2) = none := by
  decide +kernel

/-! ## Witnesses: strobes, FAULT and time -/

theorem witness_StrobeEdgesArriveOrWake :
    let full := queued (List.replicate 4 ⟨.strobe, .keep⟩) ready
    let asleep := inState .dormant ready
    let fullList := { asleep with siu := { asleep.siu with wakeList := List.replicate 8 .keep } }
    ready.resetHeld = false ∧ ready.siu.markEdge = .rising ∧ ready.ckc.state ≠ .dormant ∧ ready.ckc.queue.length < 4
      ∧ 4 ≤ full.ckc.queue.length ∧ asleep.ckc.state = .dormant ∧ asleep.siu.wakeList.length < 8
      ∧ 8 ≤ fullList.siu.wakeList.length ∧ Edge.falling ≠ ready.siu.markEdge := by decide

theorem witness_FaultEventFollowsTheTable :
    let alerting := { ready with siu := { ready.siu with faultAction := .alertOnly } }
    ready.resetHeld = false ∧ ready.siu.faultPolarity = .falling ∧ ready.siu.faultAction = .undoAll
      ∧ alerting.siu.faultAction = .alertOnly ∧ (inState .dormant ready).ckc.state = .dormant
      ∧ Edge.rising ≠ ready.siu.faultPolarity := by decide

/-- The age timer on. -/
def ticking (s : State) : State := { s with atu := { s.atu with enable := true, action := .undoTo } }

theorem witness_TickAgesFramesAndMakesArrivals :
    let full := queued (List.replicate 4 ⟨.strobe, .keep⟩) (ticking two)
    let owing := fun id : Word16 => { full with atu := { full.atu with owed := full.atu.owed.set 1 (some id) } }
    ready.resetHeld = false ∧ (ticking two).atu.enable = true ∧ (ticking two).ckc.state ≠ .dormant
      ∧ (ticking two).ckc.startUp = false
      ∧ ({ ticking two with ckc := { two.ckc with startUp := true } } : State).ckc.startUp = true
      ∧ ready.atu.enable = false ∧ (inState .dormant ready).ckc.state = .dormant
      ∧ (ticking two).ckc.frames[2]? = none ∧ (two.ckc.frames.map Frame.id)[1]? = some 8
      ∧ (ticking two).ckc.queue.length < 4 ∧ 4 ≤ full.ckc.queue.length
      ∧ (owing 8).atu.owed[1] = some 8 ∧ full.atu.owed[1] = none
      ∧ (owing 99).atu.owed[1] = some 99 ∧ (∀ g ∈ (owing 99).ckc.frames, g.id ≠ 99) := by decide

/-! ## Witnesses: the Service Port -/

theorem witness_CountersSaturateAndClear :
    let asleep := writingAt 1 1 (inState .dormant ready)
    WritesAt 1 1 (writingAt 1 1 ready)
      ∧ asleep.resetHeld = false ∧ asleep.ckc.state = .dormant ∧ asleep.svp.stall = none
      ∧ asleep.svp.segment = .writing ∧ asleep.svp.page = 1 ∧ asleep.svp.index = .index 1
      ∧ asleep.siu.wakeList = [] ∧ asleep.siu.wakeFault = false ∧ asleep.hbp.current = none := by decide

theorem witness_QueuedCommandsJoinTheQueue :
    let s := writingAt 1 1 ready
    let full := writingAt 1 1 (queued (List.replicate 4 ⟨.strobe, .keep⟩) ready)
    WritesAt 1 1 s ∧ s.ckc.queue.length < 4 ∧ WritesAt 1 1 full ∧ 4 ≤ full.ckc.queue.length := by decide

theorem witness_ImmediateCommandsTakeEffect :
    let s := writingAt 1 1 ready
    let r : Refused := ⟨1, 0, .read, .one, .barred⟩
    WritesAt 1 1 s ∧ ({ s with hbp := { s.hbp with refusals := [r] } } : State).hbp.refusals = r :: []
      ∧ s.ckc.state = .ready ∧ s.ckc.queue = [] ∧ s.ckc.inService = none ∧ s.ckc.faultRequest = false
      ∧ s.hbp.current = none ∧ s.jmg.headerWrite = none ∧ s.jmg.headerWaiting = none ∧ s.svp.slotLoad = none
      ∧ s.ckc.restartPending = false := by decide

/-- HALTED on an item, with a retarget pending or not. -/
def haltedOn (i : HaltItem) (retarget : Bool) (s : State) : State :=
  { inState .halted s with rpe := { s.rpe with step := .halted, haltItem := i, retargetPending := retarget } }

theorem witness_HaltAndJournalCommandsStartTheirWork :
    let h := writingAt 1 1 (haltedOn .slot false one)
    let p := writingAt 1 1 (haltedOn .slot true one)
    let owing := { h with rpe := { h.rpe with openingOwed := true } }
    let stale := fun s : State => { writingAt 1 1 s with jmg := { s.jmg with headerStale := true } }
    WritesAt 1 1 h ∧ h.jmg.headerWrite = none ∧ h.jmg.headerWaiting = none ∧ h.ckc.restartPending = false
      ∧ h.ckc.state = .halted ∧ h.rpe.openingOwed = false ∧ owing.rpe.openingOwed = true
      ∧ h.rpe.haltItem = .slot ∧ h.rpe.retargetPending = false ∧ WritesAt 1 1 p ∧ p.rpe.retargetPending = true
      ∧ WritesAt 1 1 (stale (haltedOn .slot false one)) ∧ (stale one).jmg.headerStale = true
      ∧ (stale one).ckc.state = .ready ∧ ready.ckc.frames = []
      ∧ WritesAt 1 1 (writingAt 1 1 (inState .unformatted ready))
      ∧ WritesAt 1 1 (writingAt 1 1 (inState .await one)) := by decide

theorem witness_RefusedCommandsChangeNothing :
    WritesAt 1 1 (writingAt 1 1 one) ∧ one.ckc.state ≠ .halted ∧ one.ckc.frames ≠ []
      ∧ (halfOut .sync false ready).jmg.headerWrite ≠ none ∧ (restarting ready).ckc.restartPending = true
      ∧ WritesAt 1 1 (writingAt 1 1 (haltedOn .header false one)) ∧ (haltedOn .header false one).rpe.haltItem ≠ .slot
      ∧ one.jmg.headerStale = false ∧ (inState .wipe one).ckc.state ≠ .ready ∧ (inState .wipe one).ckc.state ≠ .halted
      ∧ (inState .wipe one).ckc.state ≠ .unformatted ∧ (inState .wipe one).ckc.state ≠ .await
      ∧ ready.hbp.refusals = [] ∧ (Instr.unknownCommand 0xFF).wellFormed = true := by decide

theorem witness_SegmentsMoveTheRegisterIndex :
    let idle := { ready with svp := { ready.svp with segment := .awaitIndex } }
    let past := { writingAt 0 0 ready with svp := { (writingAt 0 0 ready).svp with index := .past } }
    ready.resetHeld = false ∧ ready.svp.stall = none
      ∧ (0x2C#7).toNat = 0x2C + ready.straps.sa.toNat ∧ (0x2D#7).toNat ≠ 0x2C + ready.straps.sa.toNat
      ∧ (inState .dormant ready).ckc.state = .dormant
      ∧ idle.svp.segment = .awaitIndex ∧ (0x3F#8).toNat < 64 ∧ 64 ≤ (0x40#8).toNat
      ∧ Hears (writingAt 0 1 ready) ∧ (writingAt 0 1 ready).svp.segment = .writing
      ∧ (currentRow (writingAt 0 1 ready)).map RegRow.reg = some .id ∧ isWritable .id = false
      ∧ currentRow (writingAt 1 0x11 ready) = none ∧ (writingAt 1 0x11 ready).svp.index ≠ .past
      ∧ past.svp.index = .past ∧ Hears past := by decide

theorem witness_SegmentsTakeCmdtagAndCmdframe :
    let t := staged .cmdtag 0x34 (writingAt 1 3 ready)
    let f := staged .cmdframe 0x34 (writingAt 1 5 ready)
    WritesAt 1 3 t ∧ (t.svp.staging.find? fun q => q.reg = .cmdtag && q.offset = 0) = some ⟨.cmdtag, 0, 0x34⟩
      ∧ WritesAt 1 5 f ∧ (f.svp.staging.find? fun q => q.reg = .cmdframe && q.offset = 0) = some ⟨.cmdframe, 0, 0x34⟩ := by
  decide

/-- A named register and CMD at the index, and a data byte that follows a QUIESCE in DORMANT (R196). -/
theorem witness_RegisterWriteIsTheRowNamed :
    let d := inState .dormant (writingAt 1 2 ready)
    currentReg (writingAt 2 0x02 ready) = some .regclass ∧ currentReg (writingAt 1 1 ready) = some .cmd
      ∧ Instr.wellFormed (.unknownCommand 0) = true
      ∧ d.resetHeld = false ∧ d.svp.stall = none ∧ d.svp.segment = .writing ∧ d.ckc.state = .dormant := by
  decide

theorem witness_PageWriteSelectsThePage :
    WritesAt 3 0 (writingAt 3 0 ready) ∧ ∀ q ∈ (writingAt 3 0 ready).svp.staging, q.reg ≠ .page := by decide

theorem witness_OneByteRegistersTakeLegalValues :
    WritesAt 1 0x07 (writingAt 1 0x07 ready) ∧ WritesAt 1 0x0A (writingAt 1 0x0A ready)
      ∧ WritesAt 1 0x0B (writingAt 1 0x0B ready) ∧ WritesAt 1 0x10 (writingAt 1 0x10 ready)
      ∧ WritesAt 2 0x01 (writingAt 2 0x01 ready) ∧ WritesAt 2 0x20 (writingAt 2 0x20 ready)
      ∧ WritesAt 3 0x05 (writingAt 3 0x05 ready) := by decide

/-- A low byte staged for the register whose high byte stands at an index. -/
abbrev HighByteNext (p : BitVec 2) (i : BitVec 6) (r : Reg) : Prop :=
  WritesAt p i (staged r 0x40 (writingAt p i ready))
    ∧ ((staged r 0x40 (writingAt p i ready)).svp.staging.find? fun q => q.reg = r && q.offset = 0) = some ⟨r, 0, 0x40⟩

theorem witness_TwoByteRegistersTakeTheWholeValue :
    WritesAt 0 0x0A (writingAt 0 0x0A ready) ∧ WritesAt 3 0x03 (writingAt 3 0x03 ready)
      ∧ HighByteNext 0 0x0B .highwater ∧ HighByteNext 1 0x09 .strobetag ∧ HighByteNext 1 0x0D .warnat
      ∧ HighByteNext 1 0x0F .expireat ∧ HighByteNext 2 0x0D .slotidx ∧ HighByteNext 3 0x02 .flags
      ∧ HighByteNext 3 0x04 .masks := by
  refine ⟨?_, ?_, ?_, ?_, ?_, ?_, ?_, ?_, ?_⟩ <;> decide

/-- The highest bytes of REGBASE and REGLIMIT with nothing staged before them, and FLAGS likewise. -/
theorem witness_HighestBytesAlone :
    WritesAt 2 0x05 (writingAt 2 0x05 ready) ∧ WritesAt 2 0x09 (writingAt 2 0x09 ready)
      ∧ WritesAt 3 0x02 (writingAt 3 0x02 ready) ∧ ready.svp.staging = [] ∧ WritesAt 2 0x08 (writingAt 2 0x08 ready)
      ∧ WritesAt 1 0x02 (writingAt 1 0x02 ready) ∧ WritesAt 1 0x04 (writingAt 1 0x04 ready) := by decide

/-- A base whose highest byte is written alone keeps its other bytes (R187). -/
theorem test_regbase_keeps_lower_bytes :
    (after (.regionStagingWrite 0x01)
      { writingAt 2 0x05 ready with
        svp := { (writingAt 2 0x05 ready).svp with regionStaging := ⟨true, 0x1280, 0, .pass, .refuse⟩ } }).svp.regionStaging.base
      = 0x011280 := by decide

/-- A descriptor staged for the region index 11. -/
def stagedRegion (r : Region) (s : State) : State :=
  { writingAt 2 0x0A s with svp := { (writingAt 2 0x0A s).svp with regionIndex := 11, regionStaging := r } }

theorem witness_RegionCommitsAtDepthZeroOnly :
    let s := stagedRegion ⟨true, 0x3FFF80, 0x3FFFC0, .journaled, .breach⟩ ready
    let off := stagedRegion ⟨false, 1, 0, .barred, .refuse⟩ ready
    let bad := stagedRegion ⟨true, 64, 64, .barred, .refuse⟩ ready
    WritesAt 2 0x02 (writingAt 2 0x02 ready) ∧ WritesAt 2 0x0A s ∧ s.svp.regionIndex < 12
      ∧ s.ckc.state = .ready ∧ s.ckc.frames = [] ∧ s.svp.regionStaging.valid = true
      ∧ s.svp.regionStaging.base.toNat % 64 = 0 ∧ s.svp.regionStaging.limit.toNat % 64 = 0
      ∧ s.svp.regionStaging.base.toNat < s.svp.regionStaging.limit.toNat
      ∧ s.svp.regionStaging.limit.toNat ≤ arraySize s.straps
      ∧ off.svp.regionStaging.valid = false ∧ bad.svp.regionStaging.valid = true
      ∧ ¬ bad.svp.regionStaging.base.toNat < bad.svp.regionStaging.limit.toNat
      ∧ (stagedRegion ⟨true, 0, 64, .pass, .refuse⟩ one).ckc.frames ≠ []
      ∧ (inState .halted ready).ckc.state ≠ .ready := by decide

theorem witness_SlotLoadFillsTheWindow :
    let s := writingAt 2 0x0E ready
    let inFlight := awaiting .slotLoad { s with svp := { s.svp with slotLoad := some 0 } }
    WritesAt 2 0x0E s ∧ s.svp.slotLoad = none ∧ WritesAt 2 0x0E inFlight ∧ inFlight.svp.slotLoad = some 0
      ∧ Awaits .slotLoad inFlight ∧ inFlight.svp.stall = none := by decide

/-- SCL held after a SLOTLOAD, and before SLOTSTAT and the first and last byte of SLOTDATA, with a load in flight. -/
theorem witness_SlotLoadEndsWithSclHeld :
    let busy := fun (i : BitVec 6) (x : Stall) =>
      awaiting .slotLoad
        { readingAt 2 i ready with svp := { (readingAt 2 i ready).svp with slotLoad := some 0, stall := some x } }
    (Awaits .slotLoad (busy 0x0F .loadAgain) ∧ (busy 0x0F .loadAgain).svp.stall = some .loadAgain)
      ∧ (Awaits .slotLoad (busy 0x0F (.slotByte true)) ∧ (busy 0x0F (.slotByte true)).svp.index = .index 0x0F
        ∧ (busy 0x0F (.slotByte true)).svp.page = 2 ∧ (busy 0x0F (.slotByte true)).svp.slotLoad = some 0)
      ∧ (busy 0x10 (.slotByte false)).svp.stall = some (.slotByte false)
      ∧ (busy 0x1F (.slotByte false)).svp.index = .index 0x1F ∧ (0x1F : BitVec 6).toNat < 0x20 := by
  decide

theorem witness_ReadsComeFromTheSnapshot :
    let multi := readingAt 0 0x0A ready
    let second := readingAt 0 0x0B { ready with svp := { ready.svp with snapshots := [⟨.highwater, [1, 2]⟩] } }
    let data := readingAt 2 0x10 ready
    let busy := { data with svp := { data.svp with slotLoad := some 0 } }
    (multi.resetHeld = false ∧ multi.svp.stall = none ∧ multi.svp.segment = .reading)
      ∧ ((currentRow (readingAt 0 1 ready)).map RegRow.bytes = some 1)
      ∧ ((currentRow multi).map RegRow.reg = some .highwater ∧ (currentRow multi).map RegRow.bytes = some 2
        ∧ (currentRow multi).map RegRow.index = some 0x0A ∧ multi.svp.index = .index 0x0A)
      ∧ ((currentRow second).map RegRow.index = some 0x0A
        ∧ (second.svp.snapshots.find? fun x => x.reg = .highwater) = some ⟨.highwater, [1, 2]⟩)
      ∧ ((currentRow data).map RegRow.reg = some .slotdata ∧ data.svp.slotLoad = none)
      ∧ ((currentRow busy).map RegRow.reg = some .slotdata ∧ busy.svp.slotLoad ≠ none)
      ∧ currentRow (readingAt 3 0x3F ready) = none := by decide

/-- A higher byte read without a snapshot; a descriptor, a frame and a refusal to read, and an index that names no frame
(R188, R191, R195, R126). -/
theorem witness_RegistersReadTheState :
    let high := readingAt 0 0x0B ready
    let s := two
    let refused := refuseTxn (txn 1 .read .one) .misaligned ready
    (currentRow high).map RegRow.index = some 0x0A ∧ high.svp.snapshots = []
      ∧ s.svp.regionIndex < 12 ∧ s.ckc.frames[s.svp.frameIndex.toNat]? = some frame1
      ∧ ready.ckc.frames.length ≤ ready.svp.frameIndex.toNat ∧ ready.hbp.refusals = []
      ∧ refused.hbp.refusals = [⟨1, 1, .read, .one, .misaligned⟩] := by
  decide

/-- REFHEAD of the first refusal of a read of four cells at `$3FE010`, JOURNAL_AREA (R126, R200). -/
theorem test_refhead :
    regBytes (refuseTxn (txn 0x3FE010 .read .four) .journalArea ready) .refhead
      = [0x01, 0x00, 0x10, 0xE0, 0x3F, 0x04, 0x04] := by
  decide

theorem witness_WakeEndsInReadyWithItsEvents :
    let w := waking ready
    let struck := { w with siu := { w.siu with wakeList := List.replicate 5 .keep } }
    let faulted := { waking one with siu := { one.siu with wakeFault := true } }
    let asked := { w with hbp := { w.hbp with current := some ⟨txn 0 .read .one, .untaken, .pass, .refuse⟩ } }
    (w.ckc.waking = true ∧ w.siu.wakeList = [] ∧ w.siu.wakeFault = false ∧ w.hbp.current = none ∧ w.svp.stall = none)
      ∧ (struck.ckc.queue = [] ∧ struck.siu.wakeFault = false ∧ struck.siu.wakeList.length = 5)
      ∧ (faulted.siu.wakeFault = true ∧ faulted.siu.faultAction = .undoAll ∧ faulted.ckc.frames ≠ [])
      ∧ (asked.hbp.current = some ⟨txn 0 .read .one, .untaken, .pass, .refuse⟩ ∧ asked.resetHeld = false
        ∧ asked.ckc.restartPending = false ∧ (lookupRegion asked.hbp.regions 0).1 = .pass
        ∧ isEmptyWrite (txn 0 .read .one) = false
        ∧ firstFailedCheck { asked with ckc := ready.ckc } (txn 0 .read .one) = none) := by decide

/-- Strobes and a fault held together, and a data byte held. -/
theorem witness_WakeEventsThatMeet :
    let w := waking one
    let both := { w with siu := { w.siu with wakeList := [.keep], wakeFault := true } }
    let byte := waking { writingAt 0 1 ready with
      svp := { (writingAt 0 1 ready).svp with ack := true, stall := some (.wakeByte 5) } }
    (both.siu.wakeFault = true ∧ both.ckc.queue = [] ∧ both.hbp.current = none ∧ both.svp.stall = none)
      ∧ (([.fault, .strobes] : List WakeEvent).find? fun e => e = .strobes || e = .fault) = some .fault
      ∧ (([.host, .strobes] : List WakeEvent).find? fun e => e = .strobes || e = .fault) ≠ some .fault
      ∧ (byte.ckc.waking = true ∧ byte.svp.stall = some (.wakeByte 5) ∧ byte.svp.segment = .writing ∧ byte.svp.ack = true
        ∧ byte.resetHeld = false ∧ byte.hbp.current = none) := by
  decide

/-- A transaction held through the wake at depth 1: to a region of each class, one that fails a check, and one that
writes nothing; a JOURNALED write with strobes and with a fault. -/
theorem witness_HeldTransactionIsHandledAtTheWake :
    let held := fun (t : HostTxn) (c : RegionClass) => hosting t .untaken .pass (waking (regionOf c one))
    let woken := fun s : State => { s with ckc := { s.ckc with state := .ready, waking := false, wakeCount := 0 } }
    let w := txn 0 .write .one
    let j := held w .journaled
    (∀ c ∈ [RegionClass.pass, .journaled, .steady, .barred],
        (lookupRegion (held w c).hbp.regions 0).1 = c ∧ firstFailedCheck (woken (held w c)) w = none
        ∧ (held w c).hbp.current = some ⟨w, .untaken, .pass, .refuse⟩ ∧ (held w c).resetHeld = false
        ∧ (held w c).ckc.restartPending = false ∧ (held w c).ckc.waking = true ∧ (held w c).ckc.frames ≠ [])
      ∧ firstFailedCheck (woken (held (txn 1 .read .one) .pass)) (txn 1 .read .one) = some .misaligned
      ∧ isEmptyWrite w = false ∧ isEmptyWrite { w with be := 0 } = true
      ∧ { j with siu := { j.siu with wakeList := [.undo] } }.siu.wakeList ≠ []
      ∧ { j with siu := { j.siu with wakeFault := true } }.siu.faultAction = .undoAll ∧ j.ckc.queue = [] := by
  decide

/-- A write let in ahead of the held fault is in its capture, and one behind it waits in GATE. -/
theorem test_wake_order_of_write_and_fault :
    let s := hosting (txn 0 .write .one) .untaken .pass (waking (regionOf .journaled one))
    let f := { s with siu := { s.siu with wakeFault := true } }
    ((after (.wakeEnd []) f).hbp.current.map Current.disposition) = some .capture
      ∧ ((after (.wakeEnd [.fault]) f).hbp.current.map Current.disposition) = some .gate := by
  decide +kernel

/-- The wake that a held REGCOMMIT byte waits for ends before the closing header's timeout in one REFCLK period, so the
commit finds the level open (R116, log 26). -/
theorem test_commit_before_the_last_level_closes :
    let u := halfOut .closing true (serving .undo 0 (undoing .service 0 one))
    let s : State :=
      { u with
        ckc := { u.ckc with state := .dormant, waking := true, wakeCount := 79 }
        mbp := { u.mbp with watchCount := 31, watchPeriods := 7 }
        svp := { (writingAt 2 0x0A ready).svp with stall := some (.wakeByte 0), ack := true } }
    (refclkPeriod s).ckc.frames = [] ∧ (refclkPeriod s).svp.regStat = .locked := by
  decide +kernel

/-! ## Witnesses: the memory bus -/

/-- HOST and ENGINE waiting after a grant to SERVICE, to HOST and to ENGINE. -/
def waitingAfter (r : Requester) : Mbp :=
  { ready.mbp with
    lastGrant := r
    waitHost := some (hostRead .passThrough 0 .one)
    waitEngine := some (engineRead .scanSlotRead 16 .four) }

theorem witness_ArbiterGrantsInRotation :
    ready.resetHeld = false ∧ (waitingAfter .host).phase = .free
      ∧ searchOrder .host = [] ++ .engine :: [.service, .host]
      ∧ waitingOf (waitingAfter .host) .engine = some (engineRead .scanSlotRead 16 .four)
      ∧ searchOrder .engine = [.service] ++ .host :: [.engine] ∧ waitingOf (waitingAfter .engine) .service = none
      ∧ (waitingAfter .engine).lastGrant = .engine ∧ (waitingAfter .service).lastGrant ≠ .engine
      ∧ nextGrant (waitingAfter .service) = some .host ∧ nextGrant (waitingAfter .host) = some .engine
      ∧ nextGrant (waitingAfter .engine) = some .host ∧ State.reset.mbp.phase ≠ .free
      ∧ waitingOf ready.mbp .host = none ∧ waitingOf ready.mbp .engine = none ∧ waitingOf ready.mbp .service = none := by
  decide

theorem witness_TimeoutsDrainAndTheBusGoesFree :
    let draining := { ready with mbp := { ready.mbp with phase := .drain } }
    let settling := { ready with mbp := { ready.mbp with phase := .settle } }
    (awaiting .restore ready).mbp.outstanding.isSome = true
      ∧ (hosting (txn 0 .read .one) .service .pass ready).hbp.current
        = some ⟨txn 0 .read .one, .service, .pass, .refuse⟩
      ∧ draining.resetHeld = false ∧ draining.mbp.outstanding = none ∧ draining.mbp.phase = .drain
      ∧ settling.mbp.phase = .settle ∧ ready.mbp.phase = .free := by decide

/-- Captures at each step, and a JOURNALED write at depth 0, whose transactions may time out (R40 to R42, R121). -/
theorem witness_HostTimeouts :
    let s := hosting (txn 0 .write .one) .service .journaled ready
    (s.hbp.current = some ⟨txn 0 .write .one, .service, .journaled, .refuse⟩)
      ∧ ((inCapture .preImageRead .read 0).cpe.capture = some (capturing .read 0)
        ∧ (inCapture .preImageRead .read 0).hbp.current = some ⟨txn 0 .write .two, .capture, .journaled, .refuse⟩
        ∧ (capturing .read 0).appended = 0)
      ∧ (inCapture .append .append 1).cpe.capture = some (capturing .append 1)
      ∧ (inCapture .captureWrite .write 2).cpe.capture = some (capturing .write 2) := by
  decide

/-! ## Witnesses: the whole machine -/

theorem witness_EveryStepKeepsTheBounds :
    let s := { two with cpe := { Cpe.reset with captureSet := [⟨0, 1⟩] }, pending := [.tick] }
    QueuesBounded s ∧ RefusalsBounded s ∧ CaptureSetBounded s ∧ StackOrdered s ∧ BusExclusive s ∧ ConfigLegal s := by
  decide

/-- The reset state and one with a transaction outstanding meet the invariants, and each takes a step. -/
theorem witness_EveryStepKeepsTheBusAndConfiguration :
    let s := { awaiting .restore one with pending := [.tick] }
    BusExclusive s ∧ ConfigLegal s ∧ BusExclusive State.reset ∧ ConfigLegal State.reset
      ∧ step s = .next { s with pending := [] } :=
  ⟨by decide, by decide, by decide, by decide, rfl⟩

/-- A region table that POR changes with a level open, and straps that RESET_END changes. -/
theorem witness_RegionsAndStrapsStandStill :
    let s := { regionOf .barred one with pending := [.por] }
    let r := { State.reset with pending := [.resetEnd ⟨7, 3, 3⟩] }
    s.ckc.frames ≠ [] ∧ (after .por s).hbp.regions ≠ s.hbp.regions
      ∧ (after (.resetEnd ⟨7, 3, 3⟩) r).straps ≠ r.straps := by decide

end Sys2Proof.Tests
end

section
/-! PROOF. The stack holds one frame for each level from 1 to depth, whatever step is taken (R3, R4): a step shortens
the stack, changes frames without their levels, pushes the next level below 8, or rebuilds it from a valid header. -/

namespace Sys2Proof.StackOrder

set_option Elab.async false

open Sys2Proof.Machine Sys2Proof.Safety Sys2Proof.Laws

variable {s t : State} {fs gs : List Frame} {bs : List Block}

/-! ## Lists of frames -/

/-- At most eight frames, of the levels from 1 upward: what `StackOrdered` says of the stack. -/
def LevelsInOrder (fs : List Frame) : Prop :=
  fs.length ≤ 8 ∧ fs.map Frame.level = List.range' 1 fs.length

theorem stackOrdered_iff : StackOrdered s ↔ LevelsInOrder s.ckc.frames := Iff.rfl

theorem levelsInOrder_nil : LevelsInOrder [] := ⟨Nat.zero_le _, rfl⟩

/-- Frames whose levels are the first of an ordered stack are in order. -/
theorem LevelsInOrder.of_prefix (h : LevelsInOrder fs) (hp : gs.map Frame.level <+: fs.map Frame.level) :
    LevelsInOrder gs := by
  obtain ⟨bounded, levels⟩ := h
  have shorter : gs.length ≤ fs.length := by simpa using hp.length_le
  refine ⟨shorter.trans bounded, ?_⟩
  calc gs.map Frame.level
      = (fs.map Frame.level).take gs.length := by simpa using List.prefix_iff_eq_take.mp hp
    _ = List.range' 1 gs.length := by rw [levels, List.take_range'_of_length_ge shorter]

theorem LevelsInOrder.dropLast (h : LevelsInOrder fs) : LevelsInOrder fs.dropLast :=
  h.of_prefix ((List.dropLast_prefix fs).map _)

theorem LevelsInOrder.map (h : LevelsInOrder fs) (f : Frame → Frame) (hf : ∀ g, (f g).level = g.level) :
    LevelsInOrder (fs.map f) :=
  h.of_prefix (by simp [Function.comp_def, hf])

/-- A frame of the next level joins below eight. -/
theorem LevelsInOrder.push (h : LevelsInOrder fs) (f : Frame) (room : fs.length < 8) (hf : f.level = fs.length + 1) :
    LevelsInOrder (fs ++ [f]) := by
  obtain ⟨_, levels⟩ := h
  refine ⟨by simpa using room, ?_⟩
  simp [levels, hf, List.range'_concat, Nat.add_comm]

/-- Frames rebuilt from a header's entries take the levels from `i` + 1 upward (R97). -/
theorem rebuiltFrames_levels (h : Header) (id : Word16) (i : Nat) (es : List LevelEntry) :
    (rebuiltFrames h id i es).map Frame.level = List.range' (i + 1) es.length := by
  induction es generalizing id i with
  | nil => rfl
  | cons e es ih => simp [rebuiltFrames, rebuiltFrame, ih, List.range'_succ]

theorem levelsInOrder_rebuiltFrames (h : Header) (id : Word16) (es : List LevelEntry) (bounded : es.length ≤ 8) :
    LevelsInOrder (rebuiltFrames h id 0 es) := by
  have levels := rebuiltFrames_levels h id 0 es
  have same : (rebuiltFrames h id 0 es).length = es.length := by simpa using congrArg List.length levels
  exact ⟨same ▸ bounded, by rw [levels, same]⟩

/-- A header that passes the tests of R60 has at most eight level entries. -/
theorem validHeader_entries_length {cap : Nat} {bs : List Byte} {h : Header} (hv : validHeader cap bs = some h) :
    h.fields.entries.length ≤ 8 := by
  unfold validHeader at hv
  split at hv
  · split at hv
    · rename_i h' read
      split at hv
      · rename_i legal
        obtain rfl : h' = h := by simpa using hv
        obtain ⟨st, -, rfl⟩ := Option.map_eq_some_iff.mp read
        simp only [headerLegal, Bool.and_eq_true, decide_eq_true_eq] at legal
        obtain ⟨⟨⟨⟨⟨⟨deep, -⟩, -⟩, -⟩, -⟩, -⟩, -⟩ := legal
        simpa using deep
      · cases hv
    · cases hv
  · cases hv

/-- The header that SCAN selects has at most eight level entries. -/
theorem selectCopy_entries_length {a b : Option Header} {c : Copy} {h : Header}
    (ha : ∀ x, a = some x → x.fields.entries.length ≤ 8) (hb : ∀ x, b = some x → x.fields.entries.length ≤ 8)
    (hs : selectCopy a b = some (c, h)) : h.fields.entries.length ≤ 8 := by
  unfold selectCopy at hs
  split at hs
  · cases hs
  · cases hs; exact ha _ rfl
  · cases hs; exact hb _ rfl
  · split at hs
    · cases hs; exact hb _ rfl
    · cases hs; exact ha _ rfl

theorem scannedHeader_entries_length {c : Copy} {l : List Byte} {h : Header} (hs : scannedHeader s c l = some h) :
    h.fields.entries.length ≤ 8 := by
  unfold scannedHeader at hs
  split at hs
  · cases hs
  · exact validHeader_entries_length hs

/-! ## Operations that leave the controller alone, and the shared ones -/

/-- An operation that does not touch the controller keeps the stack ordered. -/
theorem ordered_of_touches (ht : Touches bs s t) (h : StackOrdered s) (hb : Block.ckc ∉ bs := by decide) :
    StackOrdered t := by
  have same : t.ckc = s.ckc := ht .ckc hb
  rw [stackOrdered_iff, same]
  exact h

/-- An operation that leaves the frames as they are keeps the stack ordered. -/
theorem ordered_of_frames_eq (he : t.ckc.frames = s.ckc.frames) (h : StackOrdered s) : StackOrdered t := by
  rw [stackOrdered_iff, he]
  exact h

theorem raiseIf_ordered (c : Bool) (f : Flag) (h : StackOrdered s) : StackOrdered (raiseIf c f s) :=
  ordered_of_touches (raiseIf_touches c f s) h

theorem setStale_ordered (h : StackOrdered s) : StackOrdered (setStale s) :=
  ordered_of_touches (setStale_touches s) h

theorem requestHeader_ordered (p : HeaderPurpose) (f : HeaderFields) (h : StackOrdered s) :
    StackOrdered (requestHeader p f s) :=
  ordered_of_touches (requestHeader_touches p f s) h

theorem presentEngine_ordered (r : MemRequest) (h : StackOrdered s) : StackOrdered (presentEngine r s) :=
  ordered_of_touches (presentEngine_touches r s) h

theorem respond_ordered (why : Option Reason) (d : List Cell) (h : StackOrdered s) : StackOrdered (respond why d s) :=
  ordered_of_touches (respond_touches why d s) h

theorem rejudge_ordered (h : StackOrdered s) : StackOrdered (rejudge s) :=
  ordered_of_touches (rejudge_touches s) h

theorem strobeArrival_ordered (k : QueueKind) (h : StackOrdered s) : StackOrdered (strobeArrival k s) := by
  unfold strobeArrival; split <;> exact h

theorem serviceArrival_ordered (k : QueueKind) (h : StackOrdered s) : StackOrdered (serviceArrival k s) := by
  unfold serviceArrival; split <;> exact h

theorem recordOutcome_ordered (o : LastOutcome) (h : StackOrdered s) : StackOrdered (recordOutcome o s) := by
  rw [recordOutcome_eq]; exact h

/-- The end of a start-up changes the ages and flags of the frames alone (R105). -/
theorem endStartUp_ordered (h : StackOrdered s) : StackOrdered (endStartUp s) :=
  LevelsInOrder.map h Frame.rested fun _ => rfl

theorem enterState_ordered (st : CtrlState) (h : StackOrdered s) : StackOrdered (enterState st s) := by
  apply rejudge_ordered
  split
  · exact endStartUp_ordered h
  · exact h

theorem completeCommand_ordered (o : LastOutcome) (st : CtrlState) (h : StackOrdered s) :
    StackOrdered (completeCommand o st s) :=
  enterState_ordered st (recordOutcome_ordered o h)

/-! ## The capture and the gate -/

theorem insertEntries_ordered (l : Nat) (cells : List Addr) (h : StackOrdered s) :
    StackOrdered (insertEntries l cells s) :=
  ordered_of_touches (insertEntries_touches l cells s) h

theorem finishCapture_ordered (c : Capture) (why : Option Reason) (h : StackOrdered s) :
    StackOrdered (finishCapture c why s) :=
  respond_ordered why [] (insertEntries_ordered c.level (c.list.take c.appended) h)

theorem beginHostWrite_ordered (c : Capture) (h : StackOrdered s) : StackOrdered (beginHostWrite c s) :=
  ordered_of_touches (beginHostWrite_touches c s) h

theorem beginAppend_ordered (c : Capture) (h : StackOrdered s) : StackOrdered (beginAppend c s) :=
  ordered_of_touches (beginAppend_touches c s) h

/-- A breach marks every frame broken, and changes no level (R44). -/
theorem beginBreach_ordered (c : Capture) (h : StackOrdered s) : StackOrdered (beginBreach c s) :=
  beginHostWrite_ordered _ (LevelsInOrder.map h _ fun _ => rfl)

theorem checkCapture_ordered (c : Capture) (h : StackOrdered s) : StackOrdered (checkCapture c s) := by
  unfold checkCapture
  dsimp only
  split
  · exact beginHostWrite_ordered c h
  split
  · exact finishCapture_ordered c _ h
  split
  · exact finishCapture_ordered c _ h
  split
  · exact ordered_of_touches (beginPreImageRead_touches c s) h
  split
  · exact finishCapture_ordered c _ h
  · exact beginBreach_ordered c h

theorem tryGate_ordered (h : StackOrdered s) : StackOrdered (tryGate s) := by
  unfold tryGate
  split
  · split
    · unfold enterGate
      dsimp only
      split
      · exact ordered_of_touches (passThrough_touches _ _) h
      · exact checkCapture_ordered _ h
    · exact h
  · exact h

theorem preImageReadEnded_ordered (e : Ending) (h : StackOrdered s) : StackOrdered (preImageReadEnded e s) := by
  unfold preImageReadEnded
  split
  · exact h
  split
  · exact finishCapture_ordered _ _ h
  · exact beginAppend_ordered _ h

theorem appendEnded_ordered (e : Ending) (h : StackOrdered s) : StackOrdered (appendEnded e s) := by
  unfold appendEnded
  split
  · exact h
  split
  · exact finishCapture_ordered _ _ h
  · have risen : StackOrdered (raiseTop s) := ordered_of_touches (raiseTop_touches s) h
    dsimp only
    split
    · exact beginAppend_ordered _ risen
    · exact beginHostWrite_ordered _ risen

theorem captureWriteEnded_ordered (e : Ending) (h : StackOrdered s) : StackOrdered (captureWriteEnded e s) := by
  unfold captureWriteEnded
  split
  · exact h
  · exact finishCapture_ordered _ _ h

theorem passThroughEnded_ordered (e : Ending) (h : StackOrdered s) : StackOrdered (passThroughEnded e s) := by
  unfold passThroughEnded
  split
  · exact h
  · apply respond_ordered
    split <;> exact h

/-! ## Header writes and the wipe -/

theorem continueWipe_ordered (h : StackOrdered s) : StackOrdered (continueWipe s) :=
  ordered_of_touches (continueWipe_touches s) h

theorem beginWipe_ordered (h : StackOrdered s) : StackOrdered (beginWipe s) :=
  requestHeader_ordered _ _ (enterState_ordered .wipe h)

theorem resumeWipe_ordered (h : StackOrdered s) : StackOrdered (resumeWipe s) :=
  continueWipe_ordered (enterState_ordered .wipe h)

theorem wipeHeaderEnded_ordered (p : HeaderPurpose) (ok : Bool) (h : StackOrdered s) :
    StackOrdered (wipeHeaderEnded p ok s) := by
  unfold wipeHeaderEnded
  split
  · exact continueWipe_ordered h
  · exact requestHeader_ordered _ _ h
  · exact enterState_ordered _ h
  · exact requestHeader_ordered _ _ h

/-! ## The undo -/

theorem popFrame_ordered (h : StackOrdered s) : StackOrdered (popFrame s) := by
  unfold popFrame
  split
  · exact h
  · exact LevelsInOrder.dropLast h

theorem popEmptyLevels_ordered (n : Nat) (h : StackOrdered s) : StackOrdered (popEmptyLevels n s) := by
  induction n generalizing s with
  | zero => exact h
  | succ n ih =>
    unfold popEmptyLevels
    split
    · split
      · exact ih (popFrame_ordered h)
      · exact h
    · exact h

theorem walkHead_ordered (h : StackOrdered s) : StackOrdered (walkHead s) := by
  unfold walkHead
  split
  · exact ordered_of_touches (beginRetarget_touches s) h
  · have popped := popEmptyLevels_ordered (depth s) h
    unfold walkOn
    dsimp only
    split
    · exact ordered_of_touches (beginClosing_touches _) popped
    · exact ordered_of_touches (beginSlotRead_touches _) popped

theorem haltReplay_ordered (why : HaltReason) (item : HaltItem) (h : StackOrdered s) :
    StackOrdered (haltReplay why item s) :=
  enterState_ordered .halted h

theorem replaySlotReadEnded_ordered (e : Ending) (h : StackOrdered s) : StackOrdered (replaySlotReadEnded e s) := by
  unfold replaySlotReadEnded
  split
  · dsimp only
    split
    · exact ordered_of_touches (beginRestore_touches _ s) h
    · exact haltReplay_ordered _ _ h
  · exact haltReplay_ordered _ _ h

theorem restoreEnded_ordered (e : Ending) (h : StackOrdered s) : StackOrdered (restoreEnded e s) := by
  unfold restoreEnded
  split
  · exact h
  split
  · exact walkHead_ordered h
  · exact haltReplay_ordered _ _ h

theorem retargetEnded_ordered (ok : Bool) (h : StackOrdered s) : StackOrdered (retargetEnded ok s) := by
  unfold retargetEnded
  split
  · apply walkHead_ordered
    split <;> exact h
  · exact haltReplay_ordered _ _ (setStale_ordered h)

theorem endUndo_ordered (f : Option Frame) (o : CmdOutcome) (h : StackOrdered s) : StackOrdered (endUndo f o s) :=
  completeCommand_ordered _ .ready (raiseIf_ordered _ .done h)

theorem closingEnded_ordered (ok : Bool) (h : StackOrdered s) : StackOrdered (closingEnded ok s) := by
  have marked : StackOrdered (if ok then s else setStale s) := by
    split
    · exact h
    · exact setStale_ordered h
  unfold closingEnded
  dsimp only
  generalize (if ok = true then s else setStale s) = u at marked ⊢
  split
  · exact walkHead_ordered (popFrame_ordered marked)
  · exact endUndo_ordered _ _ (popFrame_ordered marked)

theorem undoOpeningEnded_ordered (ok : Bool) (h : StackOrdered s) : StackOrdered (undoOpeningEnded ok s) := by
  unfold undoOpeningEnded
  split
  · exact walkHead_ordered h
  split
  · exact haltReplay_ordered _ _ h
  · exact endUndo_ordered _ _ h

theorem abandonEnded_ordered (ok : Bool) (h : StackOrdered s) : StackOrdered (abandonEnded ok s) := by
  unfold abandonEnded
  split
  · exact endUndo_ordered _ _ levelsInOrder_nil
  · exact setStale_ordered h

theorem resumeReplay_ordered (h : StackOrdered s) : StackOrdered (resumeReplay s) := by
  have entered := enterState_ordered .replay h
  unfold resumeReplay
  dsimp only
  split
  · exact ordered_of_touches (requestOpening_touches _) entered
  · exact walkHead_ordered entered

theorem skipReplay_ordered (h : StackOrdered s) : StackOrdered (skipReplay s) := by
  have entered := enterState_ordered .replay h
  unfold skipReplay
  dsimp only
  split
  · exact ordered_of_touches (beginRetarget_touches _) entered
  · exact walkHead_ordered entered

/-! ## The commands of the controller -/

theorem completeAtOnce_ordered (e : QueueEntry) (o : CmdOutcome) (h : StackOrdered s) :
    StackOrdered (completeAtOnce e o s) :=
  completeCommand_ordered _ _ h

theorem startUndo_ordered (c : InService) (h : StackOrdered s) : StackOrdered (startUndo c s) := by
  have entered : StackOrdered (enterState .replay { s with ckc := { s.ckc with inService := some c } }) :=
    enterState_ordered .replay h
  exact ordered_of_touches (requestOpening_touches _) entered

theorem takeOpen_ordered (e : QueueEntry) (h : StackOrdered s) : StackOrdered (takeOpen e s) := by
  unfold takeOpen
  split
  · split
    · exact completeAtOnce_ordered e _ h
    · exact requestHeader_ordered _ _ (enterState_ordered .enter h)
  · split
    · exact completeAtOnce_ordered e _ h
    · exact requestHeader_ordered _ _ (enterState_ordered .merge h)
  all_goals
    split
    · exact startUndo_ordered _ h
    · exact completeAtOnce_ordered e _ h

theorem takeCommand_ordered (h : StackOrdered s) : StackOrdered (takeCommand s) := by
  unfold takeCommand
  split
  · exact h
  split
  · unfold takeEntry
    split
    · exact completeAtOnce_ordered _ _ h
    · exact completeAtOnce_ordered _ _ h
    · exact takeOpen_ordered _ h
  · exact h

theorem actOnFault_ordered (h : StackOrdered s) : StackOrdered (actOnFault s) := by
  unfold actOnFault
  split
  · dsimp only
    split
    · exact h
    · exact startUndo_ordered _ h
  · exact h

/-- A completed MARK pushes the level after depth, and only below 8 (R3, R12). -/
theorem markEnded_ordered (ok : Bool) (h : StackOrdered s) : StackOrdered (markEnded ok s) := by
  unfold markEnded
  split
  · exact h
  · dsimp only
    split
    · rename_i room
      exact completeCommand_ordered _ _ (LevelsInOrder.push h (newFrame _ _ s) room.2 rfl)
    · exact completeCommand_ordered _ _ h

theorem keepEnded_ordered (ok : Bool) (h : StackOrdered s) : StackOrdered (keepEnded ok s) := by
  have merged : StackOrdered (mergeTop s) := by
    unfold mergeTop
    dsimp only
    split <;> exact LevelsInOrder.dropLast h
  unfold keepEnded
  split
  · split
    · exact completeCommand_ordered _ _ merged
    · exact completeCommand_ordered _ _ h
  · exact h

theorem headerConsequence_ordered (w : HeaderWrite) (ok : Bool) (h : StackOrdered s) :
    StackOrdered (headerConsequence w ok s) := by
  unfold headerConsequence
  split
  · exact markEnded_ordered ok h
  · exact keepEnded_ordered ok h
  · exact undoOpeningEnded_ordered ok h
  · exact retargetEnded_ordered ok h
  · exact closingEnded_ordered ok h
  · exact abandonEnded_ordered ok h
  · exact ordered_of_touches (syncEnded_touches w ok s) h
  · exact wipeHeaderEnded_ordered _ ok h
  · exact wipeHeaderEnded_ordered _ ok h

theorem headerHalfEnded_ordered (e : Ending) (h : StackOrdered s) : StackOrdered (headerHalfEnded e s) := by
  have issued : ∀ {u}, StackOrdered u → StackOrdered (issueWaitingHeader u) := fun hu =>
    ordered_of_touches (issueWaitingHeader_touches _) hu
  unfold headerHalfEnded
  split
  · exact h
  split
  · split
    · exact issued (headerConsequence_ordered _ _ h)
    · exact ordered_of_touches (issueSecondHalf_touches _ s) h
  · exact issued (headerConsequence_ordered _ _ h)

/-! ## Start-up and the resets -/

theorem beginScan_ordered (h : StackOrdered s) : StackOrdered (beginScan s) := by
  unfold beginScan
  split
  · exact enterState_ordered .bypass h
  · exact presentEngine_ordered _ h

theorem startReplay_ordered (x : Header) (h : StackOrdered s) : StackOrdered (startReplay x s) := by
  have entered := enterState_ordered .recover h
  unfold startReplay
  dsimp only
  split
  · exact walkHead_ordered entered
  · exact ordered_of_touches (requestOpening_touches _) entered

theorem endSlotScan_ordered (i : Nat) (last : Option Nat) (x : Header) (h : StackOrdered s) :
    StackOrdered (endSlotScan i last x s) := by
  unfold endSlotScan
  dsimp only
  split
  · exact enterState_ordered .await h
  · exact startReplay_ordered x h

theorem examineSlot_ordered (i : Nat) (last : Option Nat) (x : Header) (h : StackOrdered s) :
    StackOrdered (examineSlot i last x s) := by
  unfold examineSlot
  split
  · exact presentEngine_ordered _ h
  · exact endSlotScan_ordered i last x h

theorem scanSlotReadEnded_ordered (e : Ending) (h : StackOrdered s) : StackOrdered (scanSlotReadEnded e s) := by
  unfold scanSlotReadEnded
  split
  · split
    · dsimp only
      split
      · exact examineSlot_ordered _ _ _ h
      · exact endSlotScan_ordered _ _ _ h
    · exact presentEngine_ordered _ h
  · exact h

/-- The stack rebuilt from the selected header is ordered, whatever stood before (R97). -/
theorem followHeader_ordered (x : Header) (bounded : x.fields.entries.length ≤ 8) (h : StackOrdered s) :
    StackOrdered (followHeader x s) := by
  have rebuilt : StackOrdered (rebuildFrames x s) := levelsInOrder_rebuiltFrames x _ _ bounded
  unfold followHeader
  split
  · exact enterState_ordered .ready h
  · split
    · exact beginWipe_ordered h
    · exact examineSlot_ordered _ _ _ rebuilt
  · exact examineSlot_ordered _ _ _ rebuilt
  · exact resumeWipe_ordered h

theorem selectHeader_ordered (l : List Byte) (h : StackOrdered s) : StackOrdered (selectHeader l s) := by
  unfold selectHeader
  split
  · rename_i selected
    exact followHeader_ordered _
      (selectCopy_entries_length (fun _ => scannedHeader_entries_length) (fun _ => scannedHeader_entries_length)
        selected) h
  · unfold followNoHeader
    split
    · exact beginWipe_ordered h
    · exact enterState_ordered .unformatted h

theorem scanHeaderReadEnded_ordered (e : Ending) (h : StackOrdered s) : StackOrdered (scanHeaderReadEnded e s) := by
  unfold scanHeaderReadEnded
  split
  · split
    · dsimp only
      split
      · exact presentEngine_ordered _ h
      · exact selectHeader_ordered _ h
    · exact presentEngine_ordered _ h
  · exact h

theorem endReset_ordered (st : Straps) (h : StackOrdered s) : StackOrdered (endReset st s) := by
  unfold endReset
  split
  · exact beginScan_ordered h
  · exact h

theorem restartState_ordered (h : StackOrdered s) : StackOrdered (restartState s) := by
  unfold restartState
  split
  · exact beginScan_ordered levelsInOrder_nil
  · exact h

/-! ## Strobes, FAULT and time -/

theorem startWake_ordered (h : StackOrdered s) : StackOrdered (startWake s) := by
  unfold startWake
  split <;> exact h

theorem seeStrobe_ordered (line : StrobeLine) (edge : Edge) (h : StackOrdered s) :
    StackOrdered (seeStrobe line edge s) := by
  have consumed : StackOrdered (consumeTag line s) := ordered_of_touches (consumeTag_touches line s) h
  unfold seeStrobe
  split
  · exact h
  · dsimp only
    split
    · exact startWake_ordered (ordered_of_touches (listWakeEntry_touches _ _) consumed)
    · exact strobeArrival_ordered _ consumed

theorem takeFault_ordered (h : StackOrdered s) : StackOrdered (takeFault s) := by
  unfold takeFault
  dsimp only
  split
  · exact h
  split
  · exact h
  · exact h
  · exact ordered_of_touches (retargetUndo_touches _) h

theorem seeFault_ordered (edge : Edge) (h : StackOrdered s) : StackOrdered (seeFault edge s) := by
  unfold seeFault
  split
  · exact h
  split
  · exact startWake_ordered h
  · exact takeFault_ordered h

theorem arriveAll_ordered (es : List WakeEntry) (h : StackOrdered s) : StackOrdered (arriveAll es s) := by
  induction es generalizing s with
  | nil => exact h
  | cons e es ih => exact ih (strobeArrival_ordered _ h)

theorem owedArrival_ordered (fresh : List Nat) (i : Nat) (h : StackOrdered s) :
    StackOrdered (owedArrival fresh i s) := by
  unfold owedArrival
  split
  · exact h
  split
  · unfold timerArrival
    split <;> exact h
  split
  · exact h
  split <;> exact h

theorem owedArrivals_ordered (fresh is : List Nat) (h : StackOrdered s) : StackOrdered (owedArrivals fresh is s) := by
  induction is generalizing s with
  | nil => exact h
  | cons i is ih => exact ih (owedArrival_ordered fresh i h)

/-- A tick ages frames and changes no level (R150). -/
theorem takeTick_ordered (h : StackOrdered s) : StackOrdered (takeTick s) := by
  unfold takeTick
  split
  · unfold tickEffect
    split
    · exact LevelsInOrder.map h Frame.aged fun _ => rfl
    · exact owedArrivals_ordered _ _
        (raiseIf_ordered _ .expire (raiseIf_ordered _ .warn (LevelsInOrder.map h (Frame.ticked _) fun _ => rfl)))
  · exact h

theorem timebasePeriod_ordered (h : StackOrdered s) : StackOrdered (timebasePeriod s) := by
  unfold timebasePeriod
  split
  · exact h
  split
  · exact h
  split
  · exact h
  · exact takeTick_ordered h

/-! ## The Service Port -/

theorem immediate_ordered (c : Bool) (f : State → State) (hf : ∀ u, StackOrdered u → StackOrdered (f u))
    (h : StackOrdered s) : StackOrdered (immediate c f s) := by
  unfold immediate
  split
  · exact hf _ h
  · exact h

theorem issueCommand_ordered (c : CmdCode) (h : StackOrdered s) : StackOrdered (issueCommand s c) := by
  cases c with
  | mark | keep | undo | undoAll | undoTo => exact serviceArrival_ordered _ h
  | resume => exact immediate_ordered _ _ (fun _ => resumeReplay_ordered) h
  | skip => exact immediate_ordered _ _ (fun _ => skipReplay_ordered) h
  | abandon => exact immediate_ordered _ _ (fun _ => ordered_of_touches (abandonReplay_touches _)) h
  | sync => exact immediate_ordered _ _ (fun _ => ordered_of_touches (syncHeader_touches _)) h
  | format => exact immediate_ordered _ _ (fun _ _ => beginWipe_ordered levelsInOrder_nil) h
  | quiesce => exact immediate_ordered _ enterDormant (fun _ hu => hu) h
  | restart => exact immediate_ordered _ beginRestart (fun _ hu => hu) h
  | flush => exact immediate_ordered _ discardQueue (fun _ hu => hu) h
  | clearCounts => exact immediate_ordered _ clearCountsEffect (fun _ hu => hu) h
  | popRefusal => exact immediate_ordered _ popRefusalEffect (fun _ hu => hu) h

theorem writeCmd_ordered (b : Byte) (h : StackOrdered s) : StackOrdered (writeCmd b s) := by
  unfold writeCmd
  split
  · exact issueCommand_ordered _ h
  · exact h

theorem judged_ordered (c : Bool) (f : State → State) (hf : ∀ u, StackOrdered u → StackOrdered (f u))
    (h : StackOrdered s) : StackOrdered (judged c f s) := by
  unfold judged
  split
  · exact hf _ h
  · exact h

/-- Of the registers only CMD reaches the controller. -/
theorem takeValue_ordered (r : Reg) (v : Nat) (h : StackOrdered s) : StackOrdered (takeValue r v s) := by
  cases r with
  | cmd => exact writeCmd_ordered _ h
  | regcommit => exact judged_ordered _ _ (fun _ => ordered_of_touches (commitRegion_touches _)) h
  | slotload => exact judged_ordered _ _ (fun _ => ordered_of_touches (writeSlotload_touches _)) h
  | page | highwater | cmdtag | cmdframe | strobecfg | strobetag | ticksel | timercfg | warnat | expireat | memwatch
  | regidx | regclass | regbase | reglimit | slotidx | frameidx | flags | masks | ctrsel =>
    exact judged_ordered _ _ (fun _ hu => hu) h
  | _ => exact h

theorem writeAndAdvance_ordered (b : Byte) (h : StackOrdered s) : StackOrdered (writeAndAdvance b s) := by
  suffices written : StackOrdered (writeAtIndex b s) from written
  unfold writeAtIndex
  split
  · exact h
  split
  · exact h
  unfold writeRegByte
  split
  · exact h
  split
  · exact h
  · exact takeValue_ordered _ _ h

theorem dataByte_ordered (b : Byte) (h : StackOrdered s) : StackOrdered (dataByte b s) := by
  unfold dataByte
  split
  · split
    · exact startWake_ordered (s := setAck true s) h
    · exact writeAndAdvance_ordered b h
  · exact h

theorem dataByteAt_ordered (rs : List Reg) (b : Byte) (h : StackOrdered s) : StackOrdered (dataByteAt rs b s) := by
  unfold dataByteAt
  split
  · exact dataByte_ordered b h
  · exact h

theorem unknownCommandByte_ordered (b : Byte) (h : StackOrdered s) : StackOrdered (unknownCommandByte b s) := by
  unfold unknownCommandByte
  split
  · exact dataByteAt_ordered _ b h
  · exact h

theorem addressByte_ordered (a : BitVec 7) (d : Dir) (h : StackOrdered s) : StackOrdered (addressByte a d s) := by
  unfold addressByte
  split
  · exact h
  split
  · dsimp only
    split
    · have woken := @startWake_ordered
        { s with
          svp :=
            { s.svp with
              segment := (match d with | .write => .awaitIndex | .read => .reading)
              ack := true
              sda := none } } h
      exact woken
    · exact h
  · exact h

/-! ## The wake -/

theorem handleWakeEvent_ordered (w : WakeEvent) (h : StackOrdered s) : StackOrdered (handleWakeEvent w s) := by
  cases w with
  | host => exact tryGate_ordered (rejudge_ordered h)
  | strobes => exact arriveAll_ordered _ h
  | fault =>
    unfold handleWakeEvent takeWakeFault
    dsimp only
    split
    · exact takeFault_ordered h
    · exact h
  | service =>
    unfold handleWakeEvent releaseWakeStall
    dsimp only
    split
    · exact h
    · exact writeAndAdvance_ordered _ h
    · exact h

theorem handleWakeEvents_ordered (ws : List WakeEvent) (h : StackOrdered s) :
    StackOrdered (handleWakeEvents ws s) := by
  induction ws generalizing s with
  | nil => exact h
  | cons w ws ih => exact ih (handleWakeEvent_ordered w h)

theorem endWake_ordered (order : List WakeEvent) (h : StackOrdered s) : StackOrdered (endWake order s) := by
  unfold endWake
  split
  · exact handleWakeEvents_ordered _ h
  · exact h

/-! ## The memory bus and the periods -/

theorem endTransaction_ordered (e : Ending) (h : StackOrdered s) : StackOrdered (endTransaction e s) :=
  ordered_of_touches (endTransaction_touches e s) h

theorem endingConsequence_ordered (p : Purpose) (e : Ending) (h : StackOrdered s) :
    StackOrdered (endingConsequence p e s) := by
  cases p with
  | passThrough => exact passThroughEnded_ordered e h
  | preImageRead => exact preImageReadEnded_ordered e h
  | append => exact appendEnded_ordered e h
  | captureWrite => exact captureWriteEnded_ordered e h
  | headerHalf => exact headerHalfEnded_ordered e h
  | scanHeaderRead => exact scanHeaderReadEnded_ordered e h
  | scanSlotRead => exact scanSlotReadEnded_ordered e h
  | replaySlotRead => exact replaySlotReadEnded_ordered e h
  | restore => exact restoreEnded_ordered e h
  | wipeSlots => exact ordered_of_touches (wipeSlotWriteEnded_touches e s) h
  | slotLoad => exact ordered_of_touches (slotLoadEnded_touches e s) h

theorem memoryAnswers_ordered (p : Purpose) (e : Ending) (h : StackOrdered s) : StackOrdered (memoryAnswers p e s) := by
  unfold memoryAnswers
  split
  · exact endingConsequence_ordered p e (endTransaction_ordered e h)
  · exact h

theorem watchExpires_ordered (h : StackOrdered s) : StackOrdered (watchExpires s) := by
  unfold watchExpires
  split
  · exact endingConsequence_ordered _ _ (endTransaction_ordered _ h)
  · exact h

theorem watchPeriod_ordered (h : StackOrdered s) : StackOrdered (watchPeriod s) := by
  unfold watchPeriod
  split
  · exact h
  split
  · exact h
  dsimp only
  split
  · unfold watchReached
    split
    · exact watchExpires_ordered h
    · exact ordered_of_touches (endDrain_touches _) h
    · exact ordered_of_touches (endSettle_touches _) h
    · exact h
  · exact h

theorem wakePeriod_ordered (h : StackOrdered s) : StackOrdered (wakePeriod s) := by
  unfold wakePeriod
  split
  · exact h
  split
  · exact h
  · exact endWake_ordered [] h

theorem presentTxn_ordered (x : HostTxn) (h : StackOrdered s) : StackOrdered (presentTxn x s) := by
  unfold presentTxn
  split
  · exact h
  · dsimp only
    split
    · exact startWake_ordered h
    · exact rejudge_ordered h

/-! ## Every command and every step -/

/-- Every command goes on to a state whose stack is ordered. -/
theorem exec_ordered (i : Instr) (h : StackOrdered s) : ∃ u, exec i s = .next u ∧ StackOrdered u := by
  cases i with
  | por | rstn => exact ⟨_, rfl, levelsInOrder_nil⟩
  | resetEnd straps => exact ⟨_, rfl, endReset_ordered straps h⟩
  | settleEnd => exact ⟨_, rfl, ordered_of_touches (endSettle_touches s) h⟩
  | hostRequest txn => exact ⟨_, rfl, presentTxn_ordered txn h⟩
  | wakeEnd order => exact ⟨_, rfl, endWake_ordered order h⟩
  | gateEntry => exact ⟨_, rfl, tryGate_ordered h⟩
  | preImageReadEnd e | passThroughEnd e | replaySlotReadEnd e | scanHeaderReadEnd e | scanSlotReadEnd e
  | slotLoadEnd e | appendEnd e | captureWriteEnd e | headerHalfWriteEnd e | restoreEnd e | wipeSlotWriteEnd e =>
    exact ⟨_, rfl, memoryAnswers_ordered _ _ h⟩
  | arbiterGrant => exact ⟨_, rfl, ordered_of_touches (grant_touches s) h⟩
  | memoryWatchTimeout => exact ⟨_, rfl, watchExpires_ordered h⟩
  | drainEnd => exact ⟨_, rfl, ordered_of_touches (endDrain_touches s) h⟩
  | lateResponse => exact ⟨_, rfl, ordered_of_touches (lateAnswer_touches s) h⟩
  | strobeEdge line edge => exact ⟨_, rfl, seeStrobe_ordered line edge h⟩
  | faultEvent edge => exact ⟨_, rfl, seeFault_ordered edge h⟩
  | faultRequestActed => exact ⟨_, rfl, actOnFault_ordered h⟩
  | commandTake => exact ⟨_, rfl, takeCommand_ordered h⟩
  | tick => exact ⟨_, rfl, takeTick_ordered h⟩
  | restartEffect => exact ⟨_, rfl, restartState_ordered h⟩
  | unknownCommand code => exact ⟨_, rfl, unknownCommandByte_ordered code h⟩
  | svcAddressMatch addr dir => exact ⟨_, rfl, addressByte_ordered addr dir h⟩
  | svcIndexByte index => exact ⟨_, rfl, ordered_of_touches (indexByte_touches index s) h⟩
  | svcStop => exact ⟨_, rfl, ordered_of_touches (stopCondition_touches s) h⟩
  | registerWrite data => exact ⟨_, rfl, dataByte_ordered data h⟩
  | readSegmentByte ack => exact ⟨_, rfl, ordered_of_touches (readByte_touches ack s) h⟩
  | _ => exact ⟨_, rfl, dataByteAt_ordered _ _ h⟩

theorem refclkPeriod_ordered (h : StackOrdered s) : StackOrdered (refclkPeriod s) :=
  watchPeriod_ordered (wakePeriod_ordered (timebasePeriod_ordered h))

/-- Settles O57: a command keeps the order by `exec_ordered`, a REFCLK period by `refclkPeriod_ordered`. -/
theorem everyStepKeepsTheStackOrdered : Obligations.EveryStepKeepsTheStackOrdered := by
  intro s t h taken
  unfold step at taken
  split at taken
  · obtain rfl : refclkPeriod s = t := by simpa using taken
    exact refclkPeriod_ordered h
  · rename_i c rest _
    obtain ⟨u, goesOn, ordered⟩ := exec_ordered (s := { s with pending := rest }) c h
    obtain rfl : u = t := by simpa [goesOn] using taken
    exact ordered

end Sys2Proof.StackOrder
end

section
/-! PROOF. The gate, the commands of the Checkpoint Controller and its fault request, and the ends of MARK and KEEP
(chapter 1), with the equations of the shared operations that they turn on. -/

namespace Sys2Proof.Checkpoint

set_option Elab.async false

open Sys2Proof.Machine Sys2Proof.Safety Sys2Proof.Laws

/-! ## Shared operations -/

/-- A state of the bus that awaits a purpose hands the ending to it (R165). -/
theorem memoryAnswers_of_awaits (p : Purpose) (e : Ending) (s : State) (h : Awaits p s) :
    memoryAnswers p e s = endingConsequence p e (endTransaction e s) := by
  have awaited : outstandingIs p s = true := by simpa [outstandingIs] using h
  simp [memoryAnswers, awaited]

/-- A transaction that completes leaves the bus FREE (R165). -/
theorem endTransaction_done (cells : Beats) (s : State) :
    endTransaction (.done cells) s = { s with mbp := answered s.mbp } := rfl

/-- A transaction that fails leaves the bus FREE and sets MEMERR (R166). -/
theorem endTransaction_error (s : State) :
    endTransaction .error s = raise .memerr { s with mbp := answered s.mbp } := rfl

/-- A command that completes outside a start-up: its outcome recorded unless a restart is pending, out of service, and
the state entered (R7, R22, R25). -/
theorem completeCommand_outside_startUp (o : LastOutcome) (st : CtrlState) (s : State) (h : s.ckc.startUp = false) :
    completeCommand o st s = rejudge
      { s with
        ckc :=
          { s.ckc with
            state := st
            inService := none
            last := if s.ckc.restartPending = true then s.ckc.last else o }
        acu :=
          { s.acu with
            flags :=
              if s.ckc.restartPending = false ∧ CmdOutcome.rejects o.outcome = true then s.acu.flags ||| 0x2000
              else s.acu.flags } } := by
  rw [completeCommand, recordOutcome_eq, enterState_outside_startUp _ _ (by exact h)]
  rfl

/-- A pass-through's end answers the host, and a JOURNALED write releases the gate (R8, R121). -/
theorem passThroughEnded_of_current (e : Ending) (s : State) (c : Current) (h : s.hbp.current = some c) :
    passThroughEnded e s =
      respond (Ending.refusal e) (if c.txn.dir = .read then takeBeats (Len.cells c.txn.len) (Ending.cells e) else [])
        { s with
          ckc :=
            { s.ckc with
              gateHeld := if c.cls = .journaled ∧ c.txn.dir = .write then false else s.ckc.gateHeld } } := by
  unfold passThroughEnded
  rw [h]
  dsimp only
  congr 1
  split <;> rfl

theorem refuse_of_current (why : Reason) (s : State) (c : Current) (h : s.hbp.current = some c) :
    refuse why s = refuseTxn c.txn why s := by
  rw [refuse, h]

/-! ## The gate -/

theorem mirrorRequest_read (t : HostTxn) (h : t.dir = .read) :
    mirrorRequest t = ⟨.host, .passThrough, t.addr, .read, t.len, 0xF, []⟩ := by
  rw [mirrorRequest, h]; rfl

theorem mirrorRequest_write (t : HostTxn) (h : t.dir = .write) :
    mirrorRequest t = ⟨.host, .passThrough, t.addr, .write, t.len, if t.len = .one then t.be else 0xF,
      t.data.toList.take (Len.cells t.len)⟩ := by
  rw [mirrorRequest, h]
  simp [hostWrite, enablesOf, h, dataOf, takeBeats]

/-- Settles O13: `mirrorRequest` by direction, and `passThroughEnded_of_current` for either ending. -/
theorem passThroughMirrorsAndAnswers : Obligations.PassThroughMirrorsAndAnswers := by
  refine ⟨fun t => ⟨mirrorRequest_read t, mirrorRequest_write t⟩, fun s c cells awaits current => ⟨?_, ?_⟩⟩
  · show Host.Outcome.next (memoryAnswers .passThrough (.done cells) s) = _
    rw [memoryAnswers_of_awaits _ _ _ awaits, endTransaction_done]
    show Host.Outcome.next (passThroughEnded _ _) = _
    rw [passThroughEnded_of_current _ _ c (by exact current)]
    rfl
  · show Host.Outcome.next (memoryAnswers .passThrough .error s) = _
    rw [memoryAnswers_of_awaits _ _ _ awaits, endTransaction_error]
    show Host.Outcome.next (passThroughEnded _ _) = _
    rw [passThroughEnded_of_current _ _ c (by exact current)]
    exact congrArg _ (refuse_of_current _ _ c current)

theorem gateOpen_iff (s : State) :
    gateOpen s = true ↔ s.ckc.state = .ready ∧ s.ckc.queue = [] ∧ s.ckc.inService = none
      ∧ s.ckc.faultRequest = false ∧ s.ckc.gateHeld = false ∧ s.ckc.restartPending = false ∧ s.resetHeld = false := by
  simp [gateOpen, and_assoc]

/-- A write that the gate lets in enters it (R120). -/
theorem tryGate_of_letsIn (s : State) (c : Current) (h : GateLetsIn c s) : tryGate s = enterGate c s := by
  obtain ⟨current, waits, conditions⟩ := h
  simp [tryGate, current, waits, (gateOpen_iff s).mpr conditions]

/-- At depth 0 the gate is held and the write passes without capture (R121). -/
theorem enterGate_at_depth_zero (s : State) (c : Current) (h : s.ckc.frames = []) :
    enterGate c s = passThrough c.txn { s with ckc := { s.ckc with gateHeld := true } } := by
  simp [enterGate, depth, h]

/-- With the gate shut, or with no write in GATE, nothing enters (R8, R120). -/
theorem tryGate_of_not (s : State) (h : gateOpen s = false ∨ ∀ c, s.hbp.current = some c → c.disposition ≠ .gate) :
    tryGate s = s := by
  unfold tryGate
  split
  · rename_i c current
    refine if_neg fun ⟨waits, opened⟩ => ?_
    rcases h with shut | none
    · simp [shut] at opened
    · exact none c current waits
  · rfl

/-- Settles O14: the gate opens on exactly the conditions of `gateOpen_iff`. -/
theorem gateHoldsWritesAndPassesThemAtDepthZero : Obligations.GateHoldsWritesAndPassesThemAtDepthZero := by
  refine ⟨fun s c lets empty => ?_, fun s shut => ?_⟩
  · show Host.Outcome.next (tryGate s) = _
    rw [tryGate_of_letsIn s c lets, enterGate_at_depth_zero s c empty, passThrough, present_mirrorRequest]
    simp [setDisposition, lets.1]
  · show Host.Outcome.next (tryGate s) = _
    rw [tryGate_of_not]
    by_contra both
    obtain ⟨opened, waits⟩ := not_or.mp both
    have conditions := (gateOpen_iff s).mp (by simpa using opened)
    simp_all

/-! ## Commands that their checks decide -/

/-- CKC leaves the queue alone where it may take no command (R7). -/
theorem takeCommand_of_not (s : State) (h : s.ckc.queue = [] ∨ canTakeCommand s = false) : takeCommand s = s := by
  unfold takeCommand
  split
  · rfl
  · rename_i e rest queue
    rcases h with empty | may
    · simp [empty] at queue
    · simp [may]

/-- CKC takes the oldest entry where it may (R7). -/
theorem takeCommand_of_mayTake (s : State) (e : QueueEntry) (rest : List QueueEntry) (h : MayTake s)
    (hq : s.ckc.queue = e :: rest) :
    takeCommand s = takeEntry e { s with ckc := { s.ckc with queue := rest } } := by
  simp [takeCommand, hq, canTakeCommand_of_mayTake s h]

/-- In READY and AWAIT a command is judged by depth and the frames (R11, R13, R17, R18). -/
theorem takeEntry_open (e : QueueEntry) (s : State) (h1 : s.ckc.state ≠ .unformatted) (h2 : s.ckc.state ≠ .bypass) :
    takeEntry e s = takeOpen e s := by
  unfold takeEntry
  split
  · contradiction
  · contradiction
  · rfl

/-- A MARK at depth 8, an undo of no level and a KEEP of none complete at once (R11, R13, R17, R18). -/
theorem takeOpen_of_undecided (e : QueueEntry) (o : CmdOutcome) (s : State)
    (h : match e.kind with
      | .mark _ => s.ckc.frames.length = 8 ∧ o = .depthLimit
      | .undoTo id => (∀ f ∈ s.ckc.frames, f.id ≠ id) ∧ o = .stale
      | _ => s.ckc.frames = [] ∧ o = .noLevel) :
    takeOpen e s = completeAtOnce e o s := by
  unfold takeOpen
  cases kind : e.kind with
  | mark tag =>
    rw [kind] at h
    obtain ⟨deep, rfl⟩ := h
    simp [depth, deep]
  | undoTo id =>
    rw [kind] at h
    obtain ⟨absent, rfl⟩ := h
    have none : levelOfId id s.ckc.frames = none := by simpa [levelOfId, List.findIdx?_eq_none_iff] using absent
    simp [undoTarget, none]
  | keep | undo | undoAll =>
    rw [kind] at h
    obtain ⟨empty, rfl⟩ := h
    simp [undoTarget, depth, empty]

/-- A command decided by its checks shows a refused outcome, and AWAIT is left for READY (R2, R7, R22). -/
theorem completeAtOnce_of_rejects (e : QueueEntry) (o : CmdOutcome) (s : State) (hs : s.ckc.startUp = false)
    (hr : s.ckc.restartPending = false) (hi : s.ckc.inService = none) (ho : CmdOutcome.rejects o = true) :
    completeAtOnce e o s = rejudge
      { s with
        ckc :=
          { s.ckc with
            state := if s.ckc.state = .await then .ready else s.ckc.state
            last := checkedOutcome e o s }
        acu := { s.acu with flags := s.acu.flags ||| 0x2000 } } := by
  rw [completeAtOnce, completeCommand_outside_startUp _ _ _ hs]
  simp [hr, hi, checkedOutcome, ho]

/-- In UNFORMATTED every command completes at once (R21). -/
theorem takeEntry_unformatted (e : QueueEntry) (s : State) (h : s.ckc.state = .unformatted) :
    takeEntry e s = completeAtOnce e (unformattedOutcome e.kind) s := by
  rw [takeEntry, h]

/-- In BYPASS every command completes at once (R21). -/
theorem takeEntry_bypass (e : QueueEntry) (s : State) (h : s.ckc.state = .bypass) :
    takeEntry e s = completeAtOnce e .bypassed s := by
  rw [takeEntry, h]

theorem canTakeCommand_eq_false (s : State)
    (h : s.ckc.inService ≠ none ∨ s.ckc.gateHeld = true ∨ s.ckc.restartPending = true
      ∨ (s.ckc.faultRequest = true ∧ (s.ckc.state = .ready ∨ s.ckc.state = .await))
      ∨ (s.ckc.state ≠ .ready ∧ s.ckc.state ≠ .await ∧ s.ckc.state ≠ .unformatted ∧ s.ckc.state ≠ .bypass)) :
    canTakeCommand s = false := by
  rcases h with busy | held | pending | ⟨request, waits⟩ | ⟨r, a, u, b⟩
  · simp [canTakeCommand, Option.isNone_eq_false_iff.mpr (Option.isSome_iff_ne_none.mpr busy)]
  · simp [canTakeCommand, held]
  · simp [canTakeCommand, pending]
  · have kept : faultRequestWaits s = true := by simpa [faultRequestWaits, request] using waits
    simp [canTakeCommand, kept]
  · have takesNone : takesCommands s.ckc.state = false := by
      cases state : s.ckc.state <;> simp_all [takesCommands]
    simp [canTakeCommand, takesNone]

/-- Settles O20: the outcome that the checks give completes the command at once, and is one that rejects. -/
theorem checksDecideACommandAtOnce : Obligations.ChecksDecideACommandAtOnce := by
  refine ⟨fun s e rest o may startUp queue decided => ?_, fun s left => ?_⟩
  · obtain ⟨idle, -, pending, -, state⟩ := id may
    obtain ⟨completes, rejects⟩ : takeEntry e { s with ckc := { s.ckc with queue := rest } }
        = completeAtOnce e o { s with ckc := { s.ckc with queue := rest } } ∧ CmdOutcome.rejects o = true := by
      rcases state with state | state | ⟨state, -⟩
      · rw [takeEntry_unformatted _ _ (by exact state)]
        rw [state] at decided
        cases kind : e.kind <;> rw [kind] at decided <;> subst decided <;> exact ⟨rfl, rfl⟩
      · rw [takeEntry_bypass _ _ (by exact state)]
        rw [state] at decided
        obtain rfl : o = .bypassed := decided
        exact ⟨rfl, rfl⟩
      · rw [takeEntry_open _ _ (by rcases state with h | h <;> simp [h]) (by rcases state with h | h <;> simp [h]),
          takeOpen_of_undecided (o := o)]
        · refine ⟨rfl, ?_⟩
          rcases state with state | state <;> rw [state] at decided <;>
            cases kind : e.kind <;> rw [kind] at decided <;> obtain ⟨-, rfl⟩ := decided <;> rfl
        · rcases state with state | state <;> rw [state] at decided <;>
            cases kind : e.kind <;> rw [kind] at decided <;> exact decided
    show Host.Outcome.next (takeCommand s) = _
    rw [takeCommand_of_mayTake s e rest may queue, completes,
      completeAtOnce_of_rejects _ _ _ (by exact startUp) (by exact pending) (by exact idle) rejects]
    obtain ⟨src, kind⟩ := e
    cases kind <;> rfl
  · show Host.Outcome.next (takeCommand s) = _
    rw [takeCommand_of_not s (left.imp_right (canTakeCommand_eq_false s))]

/-! ## Commands that enter service -/

/-- An undo that starts outside a start-up: CKC in REPLAY, the target handed to RPE, and the opening header asked for
(R20, R71). -/
theorem startUndo_outside_startUp (c : InService) (s : State) (h : s.ckc.startUp = false) :
    startUndo c s =
      requestHeader .undoOpening (replayingHeader s.ckc.frames c.target s.jmg.top)
        { rejudge { s with ckc := { s.ckc with state := .replay, inService := some c } } with
          rpe :=
            { s.rpe with
              step := .opening
              target := c.target
              serialBound := s.jmg.nextSerial
              record := none
              retargetPending := false
              partialUndo := false
              source := c.source
              skipOwed := false
              openingOwed := false } } := by
  simp [startUndo, requestOpening, loadUndo, setRpeStep, enterState_outside_startUp, h]

/-- A MARK below depth 8 asks for its opening header in ENTER (R11). -/
theorem startMark_outside_startUp (e : QueueEntry) (tag : Word16) (s : State) (h : s.ckc.startUp = false) :
    startMark e tag s =
      requestHeader .markOpening (markHeader s.ckc.frames tag s.jmg.top)
        (rejudge { s with
          ckc := { s.ckc with state := .enter, inService := some ⟨QueueSource.source e.source, e.kind, 0⟩ } }) := by
  simp [startMark, enterService, enterState_outside_startUp, h]

/-- A stack that is left open at rest is described as OPEN (R13, R66, R77). -/
theorem restHeader_of_pos (fs : List Frame) (top : Nat) (h : 0 < fs.length) :
    restHeader fs top = openHeader fs top := by
  simp [restHeader, List.ne_nil_of_length_pos h]

/-- A KEEP at depth 1 or more asks for its header in MERGE (R13). -/
theorem startKeep_outside_startUp (e : QueueEntry) (s : State) (h : s.ckc.startUp = false) :
    startKeep e s =
      requestHeader .keepHeader (restHeader s.ckc.frames.dropLast s.jmg.top)
        (rejudge { s with
          ckc := { s.ckc with state := .merge, inService := some ⟨QueueSource.source e.source, e.kind, 0⟩ } }) := by
  simp [startKeep, enterService, enterState_outside_startUp, h]

/-- An undo whose kind selects a level starts with the depth below it (R17, R18). -/
theorem takeOpen_of_target (src : QueueSource) (kind : QueueKind) (t : Nat) (s : State)
    (h : undoTarget s kind = some t) :
    takeOpen ⟨src, kind⟩ s = startUndo ⟨QueueSource.source src, kind, t⟩ s := by
  cases kind with
  | mark | keep => simp [undoTarget] at h
  | undo | undoAll | undoTo => simp [takeOpen, h]

/-- The lowest level with an id is the first frame that has it (R18). -/
theorem levelOfId_of_first (id : Word16) (fs : List Frame) (t : Nat) (h : (fs[t]?).map Frame.id = some id)
    (first : ∀ j, j < t → (fs[j]?).map Frame.id ≠ some id) : levelOfId id fs = some t := by
  obtain ⟨f, at_t, same⟩ := Option.map_eq_some_iff.mp h
  obtain ⟨inside, rfl⟩ := List.getElem?_eq_some_iff.mp at_t
  refine List.findIdx?_eq_some_iff_getElem.mpr ⟨inside, by simpa using same, fun j below => ?_⟩
  simpa [List.getElem?_eq_getElem (below.trans inside)] using first j below

/-- Settles O21: the command is judged by `takeOpen`, and each start is an equation outside a start-up. -/
theorem passedChecksStartTheCommand : Obligations.PassedChecksStartTheCommand := by
  intro s src kind rest may state startUp queue fs n serving undo
  have opens : exec .commandTake s = .next (takeOpen ⟨src, kind⟩ { s with ckc := { s.ckc with queue := rest } }) := by
    show Host.Outcome.next (takeCommand s) = _
    rw [takeCommand_of_mayTake s _ rest may queue,
      takeEntry_open _ _ (by rcases state with h | h <;> simp [h]) (by rcases state with h | h <;> simp [h])]
  have undoes (t : Nat) (selects : undoTarget { s with ckc := { s.ckc with queue := rest } } kind = some t) :
      exec .commandTake s = .next (undo t) := by
    rw [opens, takeOpen_of_target _ _ t _ selects, startUndo_outside_startUp _ _ (by exact startUp)]
    rfl
  have keeps (deep : n ≠ 0) : kind = .keep → exec .commandTake s = .next
      (requestHeader .keepHeader (restHeader fs.dropLast s.jmg.top) (serving .merge 0)) := by
    rintro rfl
    rw [opens, takeOpen]
    dsimp only
    rw [if_neg (by exact deep), startKeep_outside_startUp _ _ (by exact startUp)]
  refine ⟨fun tag mark room => ?_, fun keep deep => ?_, fun keep one => ?_, fun single deep => ?_, fun all deep => ?_,
    fun id t named found first => ?_⟩
  · subst mark
    have shallow : n ≠ 8 := by omega
    rw [opens, takeOpen]
    dsimp only
    rw [if_neg (by exact shallow), startMark_outside_startUp _ _ _ (by exact startUp)]
    rfl
  · have stays : 0 < fs.dropLast.length := by rw [List.length_dropLast]; omega
    rw [keeps (by omega) keep, restHeader_of_pos _ _ stays, openHeader, List.length_dropLast]
  · have none : fs.dropLast = [] := List.eq_nil_of_length_eq_zero (by rw [List.length_dropLast]; omega)
    rw [keeps (by omega) keep, none]
    rfl
  · subst single
    exact undoes _ (if_neg (by exact Nat.one_le_iff_ne_zero.mp deep))
  · subst all
    exact undoes _ (if_neg (by exact Nat.one_le_iff_ne_zero.mp deep))
  · subst named
    exact undoes _ (levelOfId_of_first id fs t found first)

/-! ## The fault request -/

/-- Settles O22: the request is acted on by `startUndo` to depth 0, where R10 lets it. -/
theorem faultRequestUndoesEverything : Obligations.FaultRequestUndoesEverything := by
  intro s request pending notHeld startUp state fs
  have may (gate : s.ckc.gateHeld = false) : canActOnFault s = true := by
    simp [canActOnFault, request, pending, notHeld, gate, state]
  refine ⟨fun gate empty => ?_, fun gate levels => ?_, fun gate => ?_⟩
  · have flat : depth s = 0 := (depth_eq_zero s).mpr empty
    show Host.Outcome.next (actOnFault s) = _
    simp [actOnFault, may gate, flat]
  · have deep : depth s ≠ 0 := mt (depth_eq_zero s).mp levels
    show Host.Outcome.next (actOnFault s) = _
    rw [actOnFault, if_pos (may gate)]
    dsimp only
    rw [if_neg deep, startUndo_outside_startUp _ _ (by exact startUp)]
    rfl
  · show Host.Outcome.next (actOnFault s) = _
    simp [actOnFault, canActOnFault, gate]

end Sys2Proof.Checkpoint
end

section
/-! PROOF. What each header write means for its requester when it ends (chapters 1 and 4): MARK, KEEP, and the opening,
retarget, closing, ABANDON and SYNC headers of an undo. -/

namespace Sys2Proof.HeaderEnds

set_option Elab.async false

open Sys2Proof.Machine Sys2Proof.Safety Sys2Proof.Laws Sys2Proof.Checkpoint

/-! ## The end of a header write -/

/-- The machine after the last half of a header write has ended, before the requester acts (R61, R62, R166). -/
def headerEnded (w : HeaderWrite) (e : WriteEnding) (s : State) : State :=
  match e with
  | .done => { s with mbp := answered s.mbp, jmg := headerDone w s.jmg }
  | .error => raise .memerr { s with mbp := answered s.mbp, jmg := headerLost w s.jmg }

/-- With no other header write waiting, the end of one is what its requester makes of it. -/
theorem headerWrite_ends {s u : State} {w : HeaderWrite} {p : HeaderPurpose} (e : WriteEnding) (h : EitherHalf p w s)
    (last : e = .done → w.second = true)
    (acts : headerConsequence w (decide (e = .done)) (headerEnded w e s) = u)
    (waiting : (headerEnded w e s).jmg.headerWaiting = none → u.jmg.headerWaiting = none) :
    exec (.headerHalfWriteEnd e) s = .next u := by
  obtain ⟨awaits, write, purpose, free⟩ := id h
  cases e with
  | done =>
    rw [headerHalf_second_done s w p ⟨awaits, write, purpose, last rfl, free⟩]
    exact congrArg _ ((congrArg _ acts).trans (issueWaitingHeader_none u (waiting free)))
  | error =>
    rw [headerHalf_error s w p h]
    exact congrArg _ ((congrArg _ acts).trans (issueWaitingHeader_none u (waiting free)))

theorem eitherHalf_of_second {p : HeaderPurpose} {w : HeaderWrite} {s : State} (h : SecondHalf p w s) :
    EitherHalf p w s := by
  obtain ⟨awaits, write, purpose, -, free⟩ := h
  exact ⟨awaits, write, purpose, free⟩

theorem second_of_second {p : HeaderPurpose} {w : HeaderWrite} {s : State} {e : WriteEnding} (h : SecondHalf p w s)
    (_ : e = .done) : w.second = true := by
  obtain ⟨-, -, -, second, -⟩ := h
  exact second

theorem rejudge_headerWaiting {s : State} (h : s.jmg.headerWaiting = none) : (rejudge s).jmg.headerWaiting = none := by
  rw [rejudge_jmg]; exact h

section
variable (w : HeaderWrite) (ok : Bool) (s : State)

theorem headerConsequence_markOpening (h : w.purpose = .markOpening) : headerConsequence w ok s = markEnded ok s := by
  rw [headerConsequence, h]

theorem headerConsequence_keepHeader (h : w.purpose = .keepHeader) : headerConsequence w ok s = keepEnded ok s := by
  rw [headerConsequence, h]

theorem headerConsequence_undoOpening (h : w.purpose = .undoOpening) :
    headerConsequence w ok s = undoOpeningEnded ok s := by
  rw [headerConsequence, h]

theorem headerConsequence_retarget (h : w.purpose = .retarget) : headerConsequence w ok s = retargetEnded ok s := by
  rw [headerConsequence, h]

theorem headerConsequence_closing (h : w.purpose = .closing) : headerConsequence w ok s = closingEnded ok s := by
  rw [headerConsequence, h]

theorem headerConsequence_abandon (h : w.purpose = .abandon) : headerConsequence w ok s = abandonEnded ok s := by
  rw [headerConsequence, h]

theorem headerConsequence_sync (h : w.purpose = .sync) : headerConsequence w ok s = syncEnded w ok s := by
  rw [headerConsequence, h]

end

/-! ## Outcomes -/

/-- A command that completes with an outcome that does not reject sets no flag (R22). -/
theorem completeCommand_accepted (o : LastOutcome) (st : CtrlState) (s : State) (h : s.ckc.startUp = false)
    (ho : CmdOutcome.rejects o.outcome = false) :
    completeCommand o st s = rejudge
      { s with
        ckc :=
          { s.ckc with
            state := st
            inService := none
            last := if s.ckc.restartPending = true then s.ckc.last else o } } := by
  rw [completeCommand_outside_startUp o st s h]
  simp [ho]

/-- A command that completes with an outcome that rejects sets REJECT, unless a restart is pending (R22, R25). -/
theorem completeCommand_rejected (o : LastOutcome) (st : CtrlState) (s : State) (h : s.ckc.startUp = false)
    (ho : CmdOutcome.rejects o.outcome = true) :
    completeCommand o st s = rejudge
      { s with
        ckc :=
          { s.ckc with
            state := st
            inService := none
            last := if s.ckc.restartPending = true then s.ckc.last else o }
        acu := { s.acu with flags := s.acu.flags ||| (if s.ckc.restartPending = true then 0 else 0x2000) } } := by
  rw [completeCommand_outside_startUp o st s h]
  cases s.ckc.restartPending <;> simp [ho]

/-! ## MARK and KEEP -/

/-- Settles O23: the completed header pushes the frame and the command is accepted. -/
theorem markPushesItsFrame : Obligations.MarkPushesItsFrame := by
  intro s w src tag t0 half service room startUp
  obtain ⟨-, -, purpose, -, -⟩ := id half
  refine headerWrite_ends .done (eitherHalf_of_second half) (second_of_second half) ?_
    fun free => rejudge_headerWaiting free
  rw [headerConsequence_markOpening _ _ _ purpose]
  have pushes : decide (WriteEnding.done = .done) = true ∧ depth (headerEnded w .done s) < Config.maxDepth :=
    ⟨rfl, room⟩
  have serves : (headerEnded w .done s).ckc.inService = some ⟨src, .mark tag, t0⟩ := service
  rw [markEnded, serves]
  dsimp only
  rw [if_pos pushes, completeCommand_accepted _ _ _ (by exact startUp) rfl]
  rfl

/-- The frames after a KEEP, by whether it closed level 1 (R15, R16). -/
theorem mergeTop_eq (s : State) (h : s.ckc.frames ≠ []) :
    mergeTop s =
      { s with
        ckc := { s.ckc with frames := s.ckc.frames.dropLast }
        jmg := if s.ckc.frames.length = 1 then { s.jmg with top := 0 } else s.jmg
        cpe :=
          { s.cpe with
            captureSet :=
              if s.ckc.frames.length = 1 then [] else relabelSet s.ckc.frames.length s.cpe.captureSet } } := by
  have deep : 0 < s.ckc.frames.length := List.length_pos_iff.mpr h
  have same : depth s ≤ 1 ↔ s.ckc.frames.length = 1 := by rw [depth]; omega
  unfold mergeTop
  by_cases one : s.ckc.frames.length = 1
  · simp only [if_pos (same.mpr one), if_pos one]
  · simp only [if_neg (mt same.mp one), if_neg one]
    rfl

/-- Settles O24: the completed header merges the top level by `mergeTop_eq`. -/
theorem keepMergesOrCommitsTheTopLevel : Obligations.KeepMergesOrCommitsTheTopLevel := by
  intro s w src t0 f half service top startUp n
  obtain ⟨-, -, purpose, -, -⟩ := id half
  have deep : (headerEnded w .done s).ckc.frames ≠ [] := List.getLast?_isSome.mp (by exact top ▸ rfl)
  refine headerWrite_ends .done (eitherHalf_of_second half) (second_of_second half) ?_ fun free => ?_
  · have serves : (headerEnded w .done s).ckc.inService = some ⟨src, .keep, t0⟩ := service
    have closes : (headerEnded w .done s).ckc.frames.getLast? = some f := top
    rw [headerConsequence_keepHeader _ _ _ purpose, keepEnded, serves, closes]
    dsimp only
    rw [if_pos (decide_eq_true rfl), completeCommand_accepted _ _ _ (by rw [mergeTop_eq _ deep]; exact startUp) rfl,
      mergeTop_eq _ deep]
    rfl
  · apply rejudge_headerWaiting
    dsimp only
    split <;> exact free

/-- Settles O25: a failed header of MARK or KEEP completes the command as one that rejects. -/
theorem failedHeaderLeavesTheStack : Obligations.FailedHeaderLeavesTheStack := by
  rintro s w ⟨src, k, t0⟩ service startUp pending failed
  have serves : (headerEnded w .error s).ckc.inService = some ⟨src, k, t0⟩ := service
  refine ⟨fun tag half kind => ?_, fun f half kind top => ?_⟩
  · obtain rfl : k = .mark tag := kind
    obtain ⟨-, -, purpose, -⟩ := id half
    refine headerWrite_ends .error half (by simp) ?_ fun free => rejudge_headerWaiting free
    rw [headerConsequence_markOpening _ _ _ purpose, markEnded, serves]
    dsimp only
    rw [if_neg (by simp), completeCommand_rejected _ _ _ (by exact startUp) rfl]
    rfl
  · obtain rfl : k = .keep := kind
    obtain ⟨-, -, purpose, -⟩ := id half
    have closes : (headerEnded w .error s).ckc.frames.getLast? = some f := top
    refine headerWrite_ends .error half (by simp) ?_ fun free => rejudge_headerWaiting free
    rw [headerConsequence_keepHeader _ _ _ purpose, keepEnded, serves, closes]
    dsimp only
    rw [if_neg (by simp), completeCommand_rejected _ _ _ (by exact startUp) rfl]
    rfl

/-! ## The undo -/

/-- HEADER_STALE is set, and the flag STALE when it was clear (R65). -/
theorem setStale_eq (s : State) :
    setStale s =
      { s with
        jmg := { s.jmg with headerStale := true }
        acu := { s.acu with flags := s.acu.flags ||| (if s.jmg.headerStale = false then 0x800 else 0) } } := by
  unfold setStale raiseIf
  cases s.jmg.headerStale <;> simp [raise, Flag.bit, Flag.number]

/-- A replay that stops (R85). -/
theorem haltReplay_eq (why : HaltReason) (item : HaltItem) (s : State) :
    haltReplay why item s = rejudge
      { s with
        ckc := { s.ckc with state := .halted }
        rpe :=
          { s.rpe with
            step := .halted
            haltReason := why
            haltItem := item
            record := none
            skipOwed := false }
        acu := { s.acu with flags := s.acu.flags ||| 0x10 } } := by
  simp [haltReplay, enterState, endsStartUp, raise, Flag.bit, Flag.number]

/-- The end of an undo before the controller state is entered: the record and its flags, unless a restart is
pending, and RPE idle (R20, R25, R78, R89). -/
theorem endUndo_eq (lowest : Option Frame) (o : CmdOutcome) (s : State) :
    endUndo lowest o s = enterState .ready
      { s with
        ckc :=
          { s.ckc with
            inService := none
            last := if s.ckc.restartPending = true then s.ckc.last else undoOutcome s lowest o }
        rpe :=
          { s.rpe with
            step := .idle
            target := 0
            cursor := 0
            serialBound := 0
            record := none
            skipOwed := false
            openingOwed := false }
        acu :=
          { s.acu with
            flags :=
              s.acu.flags |||
                (if s.ckc.restartPending = true then 0
                 else if CmdOutcome.rejects o = true then 0x2008 else 0x8) } } := by
  have both : (0x2008 : BitVec 14) = 0x8 ||| 0x2000 := by decide
  rw [endUndo, completeCommand, recordOutcome_eq]
  unfold raiseIf
  cases pending : s.ckc.restartPending <;> cases rejects : CmdOutcome.rejects o <;>
    simp [idleRpe, leaveService, undoOutcome, pending, rejects, raise, Flag.bit, Flag.number, both, BitVec.or_assoc]

/-- READY entered outside a start-up. -/
theorem enterReady_outside_startUp (s : State) (h : s.ckc.startUp = false) :
    enterState .ready s = rejudge { s with ckc := { s.ckc with state := .ready, startUp := false } } := by
  simp [enterState, h]

/-- READY entered from a start-up ends it (R105). -/
theorem enterReady_ends_startUp (s : State) (h : s.ckc.startUp = true) :
    enterState .ready s = rejudge
      { s with
        ckc := { s.ckc with state := .ready, startUp := false, frames := s.ckc.frames.map Frame.rested }
        acu := { s.acu with flags := s.acu.flags ||| 0x1000 } } := by
  simp [enterState, h, endsStartUp, endStartUp, raise, Flag.bit, Flag.number]

/-- The record of an undo in service shows its kind, and the id that an UNDO_TO named or that of the frame (R23). -/
theorem undoOutcome_of_service (s : State) (c : InService) (f : Frame) (o : CmdOutcome)
    (h : s.ckc.inService = some c) :
    undoOutcome s (some f) o =
      ⟨s.rpe.source, QueueKind.cmdKind c.kind, f.tag, match c.kind with | .undoTo id => id | _ => f.id, o⟩ := by
  obtain ⟨src, kind, t⟩ := c
  unfold undoOutcome undoKind undoFrameId
  rw [h]
  cases kind <;> rfl

/-- The record of a start-up replay shows its target's kind and the id of the frame (R23). -/
theorem undoOutcome_of_startUp (s : State) (f : Frame) (o : CmdOutcome) (h : s.ckc.inService = none) :
    undoOutcome s (some f) o =
      ⟨s.rpe.source, if s.rpe.target = 0 then .undoAll else .undoTo, f.tag, f.id, o⟩ := by
  unfold undoOutcome undoKind undoFrameId
  rw [h]
  rfl

/-- Settles O26: the walk head, `haltReplay_eq` for a start-up replay, and `endUndo_eq` for a command. -/
theorem openingHeaderBeginsTheWalk : Obligations.OpeningHeaderBeginsTheWalk := by
  refine fun s w => ⟨fun half => ?_, fun half start => ?_, fun c f half other startUp service selected => ?_⟩
  · obtain ⟨-, -, purpose, -, -⟩ := id half
    refine headerWrite_ends .done (eitherHalf_of_second half) (second_of_second half) ?_
      fun free => walkHead_leaves_none_waiting _ free rfl
    rw [headerConsequence_undoOpening _ _ _ purpose]
    rfl
  · obtain ⟨-, -, purpose, -⟩ := id half
    refine headerWrite_ends .error half (by simp) ?_ fun free => rejudge_headerWaiting free
    rw [headerConsequence_undoOpening _ _ _ purpose, undoOpeningEnded, if_neg (by simp), if_pos (by exact start),
      haltReplay_eq]
    rfl
  · obtain ⟨-, -, purpose, -⟩ := id half
    have serves : (headerEnded w .error s).ckc.inService = some c := service
    have lowest : (headerEnded w .error s).ckc.frames[c.target]? = some f := selected
    refine headerWrite_ends .error half (by simp) ?_ fun free => rejudge_headerWaiting free
    rw [headerConsequence_undoOpening _ _ _ purpose, undoOpeningEnded, if_neg (by simp),
      if_neg (by exact other), serves]
    dsimp only [Option.map_some, Option.getD_some]
    rw [lowest, endUndo_eq, undoOutcome_of_service _ c _ _ (by exact service),
      enterState_outside_startUp _ _ (by exact startUp)]
    rfl

/-- The pop of the top frame (R75). -/
theorem popFrame_of_last (s : State) (f : Frame) (h : s.ckc.frames.getLast? = some f) :
    popFrame s =
      { s with
        ckc := { s.ckc with frames := s.ckc.frames.dropLast }
        cpe := { s.cpe with captureSet := cutSet s.ckc.frames.length s.cpe.captureSet }
        rpe := { s.rpe with partialUndo := s.rpe.partialUndo || f.broken } } := by
  rw [popFrame, h]
  rfl

/-- The machine when the closing header has ended and HEADER_STALE is set for a failure, before the pop (R65, R78). -/
def closingMarked (w : HeaderWrite) (e : WriteEnding) (s : State) : State :=
  { s with
    mbp := answered s.mbp
    jmg := if e = .error then { headerLost w s.jmg with headerStale := true } else headerDone w s.jmg
    acu :=
      { s.acu with
        flags :=
          s.acu.flags ||| (if e = .error then 0x400 else 0)
            ||| (if e = .error ∧ s.jmg.headerStale = false then 0x800 else 0) } }

theorem closingMarked_eq (w : HeaderWrite) (e : WriteEnding) (s : State) :
    (if decide (e = .done) = true then headerEnded w e s else setStale (headerEnded w e s)) = closingMarked w e s := by
  cases e with
  | done => simp [headerEnded, closingMarked]
  | error =>
    rw [if_neg (by simp), setStale_eq]
    cases stale : s.jmg.headerStale <;> simp [headerEnded, closingMarked, raise, Flag.bit, Flag.number, stale]

/-- The closing header ends: level t + 1 is popped, and the undo goes on to the retarget header or ends (R77, R78). -/
theorem closingEnded_eq (w : HeaderWrite) (e : WriteEnding) (s : State) (f : Frame)
    (h : s.ckc.frames.getLast? = some f) :
    closingEnded (decide (e = .done)) (headerEnded w e s) =
      if s.rpe.retargetPending = true then beginRetarget (popFrame (closingMarked w e s))
      else endUndo (some f) (if s.rpe.partialUndo = true ∨ f.broken = true then .donePartial else .done)
        (popFrame (closingMarked w e s)) := by
  have lowest : (headerEnded w e s).ckc.frames.getLast? = some f := by cases e <;> exact h
  have partialNow : (s.rpe.partialUndo || f.broken) = true ↔ s.rpe.partialUndo = true ∨ f.broken = true := by simp
  unfold closingEnded
  rw [closingMarked_eq, lowest, popFrame_of_last (closingMarked w e s) f h]
  by_cases retarget : s.rpe.retargetPending = true
  · rw [if_pos retarget]
    exact (if_pos retarget).trans (if_pos retarget)
  · rw [if_neg retarget]
    simp only [← partialNow]
    exact if_neg retarget

/-- Settles O30: `closingEnded_eq`, with READY entered outside a start-up or ending one. -/
theorem closingHeaderEndsTheUndo : Obligations.ClosingHeaderEndsTheUndo := by
  intro s w f e top half last failed pending n rest jmg cpe partialNow raised ended
  obtain ⟨-, -, purpose, -⟩ := id half
  have popped := popFrame_of_last (closingMarked w e s) f top
  have acts : headerConsequence w (decide (e = .done)) (headerEnded w e s) = _ :=
    (headerConsequence_closing _ _ _ purpose).trans (closingEnded_eq w e s f top)
  have accepts : CmdOutcome.rejects (if s.rpe.partialUndo = true ∨ f.broken = true then .donePartial else .done)
      = false := by split <;> rfl
  have waiting (free : (headerEnded w e s).jmg.headerWaiting = none) : jmg.headerWaiting = none := by
    cases e <;> exact free
  have written : jmg.headerWrite = none := by cases e <;> rfl
  refine ⟨fun c retarget service startUp => ?_, fun retarget service startUp => ?_, fun retarget => ?_⟩
  · rw [if_neg (by simp [retarget]), popped, endUndo_eq, accepts, undoOutcome_of_service _ c _ _ (by exact service),
      enterReady_outside_startUp _ (by exact startUp)] at acts
    refine headerWrite_ends e half last (acts.trans ?_) fun free => rejudge_headerWaiting (waiting free)
    simp only [ended, BitVec.ofNat_eq_ofNat, BitVec.or_zero]
    rfl
  · rw [if_neg (by simp [retarget]), popped, endUndo_eq, accepts, undoOutcome_of_startUp _ _ _ (by exact service),
      enterReady_ends_startUp _ (by exact startUp)] at acts
    exact headerWrite_ends e half last (acts.trans rfl) fun free => rejudge_headerWaiting (waiting free)
  · rw [if_pos retarget, popped] at acts
    refine headerWrite_ends e half last (acts.trans ?_) fun free =>
      requestHeader_leaves_none_waiting _ _ _ (waiting free) written
    have sameTop : (closingMarked w e s).jmg.top = s.jmg.top := by cases e <;> rfl
    rw [beginRetarget, replayingHeader, List.length_dropLast]
    dsimp only
    rw [sameTop]
    rfl

/-- Settles O31, header by header, each by what `headerConsequence` gives its purpose. -/
theorem retargetAbandonAndSyncHeadersEnd : Obligations.RetargetAbandonAndSyncHeadersEnd := by
  refine ⟨fun s w => ⟨fun half owed => ?_, fun half owed => ?_, fun half => ?_⟩, fun s w => ⟨fun f half lowest => ?_,
    fun half => ?_⟩, fun s w => ⟨fun half => ?_, fun half => ?_⟩⟩
  · obtain ⟨-, -, purpose, -⟩ := id half
    refine headerWrite_ends .done (eitherHalf_of_second half) (second_of_second half) ?_
      fun free => walkHead_leaves_none_waiting _ free rfl
    rw [headerConsequence_retarget _ _ _ purpose, retargetEnded, if_pos (decide_eq_true rfl)]
    dsimp only
    rw [if_neg (by rw [show (headerEnded w .done s).rpe.skipOwed = false from owed]; simp)]
    rfl
  · obtain ⟨-, -, purpose, -⟩ := id half
    refine headerWrite_ends .done (eitherHalf_of_second half) (second_of_second half) ?_
      fun free => walkHead_leaves_none_waiting _ free rfl
    rw [headerConsequence_retarget _ _ _ purpose, retargetEnded, if_pos (decide_eq_true rfl)]
    dsimp only
    rw [if_pos (by exact owed)]
    rfl
  · obtain ⟨-, -, purpose, -⟩ := id half
    refine headerWrite_ends .error half (by simp) ?_ fun free => rejudge_headerWaiting free
    rw [headerConsequence_retarget _ _ _ purpose, retargetEnded, if_neg (by simp), setStale_eq, haltReplay_eq]
    cases stale : s.jmg.headerStale <;> simp [headerEnded, stale, Flag.bit, Flag.number, BitVec.or_assoc]
  · intro pending closed
    obtain ⟨-, -, purpose, -⟩ := id half
    have ends := headerWrite_ends .done (eitherHalf_of_second half) (second_of_second half)
      (headerConsequence_abandon w true (headerEnded w .done s) purpose)
    have closes : (headerEnded w .done s).ckc.frames.head? = some f := lowest
    rw [abandonEnded, if_pos rfl, closes, endUndo_eq] at ends
    refine ⟨fun c service startUp => ?_, fun service startUp => ?_⟩
    · rw [undoOutcome_of_service _ c _ _ (by exact service), enterReady_outside_startUp _ (by exact startUp)] at ends
      refine (ends fun free => rejudge_headerWaiting free).trans ?_
      simp only [closed, BitVec.ofNat_eq_ofNat, BitVec.or_zero]
      rfl
    · rw [undoOutcome_of_startUp _ _ _ (by exact service), enterReady_ends_startUp _ (by exact startUp)] at ends
      exact (ends fun free => rejudge_headerWaiting free).trans rfl
  · obtain ⟨-, -, purpose, -⟩ := id half
    refine headerWrite_ends .error half (by simp) ?_ fun free => free
    rw [headerConsequence_abandon _ _ _ purpose, abandonEnded, if_neg (by simp), setStale_eq]
    cases stale : s.jmg.headerStale <;> simp [headerEnded, setRpeStep, stale, Flag.bit, Flag.number, BitVec.or_assoc]
  · obtain ⟨-, -, purpose, -⟩ := id half
    refine headerWrite_ends .done (eitherHalf_of_second half) (second_of_second half) ?_ fun free => free
    rw [headerConsequence_sync _ _ _ purpose, syncEnded]
    simp only [headerEnded, decide_true, Bool.true_and, Bool.and_eq_true, decide_eq_true_eq]
    split <;> rfl
  · obtain ⟨-, -, purpose, -⟩ := id half
    refine headerWrite_ends .error half (by simp) ?_ fun free => free
    rw [headerConsequence_sync _ _ _ purpose, syncEnded, if_neg (by simp)]
    rfl

end Sys2Proof.HeaderEnds
end

section
/-! PROOF. The reset state, the effect of a restart, and the slot scan (chapters 1 and 5). -/

namespace Sys2Proof.StartUp

set_option Elab.async false

open Sys2Proof.Machine Sys2Proof.Safety Sys2Proof.Laws Sys2Proof.Checkpoint Sys2Proof.HeaderEnds

/-! ## The reset state -/

/-- Settles O3, block by block. -/
theorem resetGivesPorValues : Obligations.ResetGivesPorValues :=
  ⟨by decide, by decide, by decide, by decide, by decide, rfl, rfl, by decide, rfl, by decide⟩

/-- Settles O59, invariant by invariant. -/
theorem resetMeetsTheInvariants : Obligations.ResetMeetsTheInvariants :=
  ⟨by decide, by decide, by decide, by decide, by decide, by decide⟩

/-! ## The effect of a restart -/

theorem restartReady_iff (s : State) :
    restartReady s = true ↔ s.ckc.restartPending = true
      ∧ (∀ c, s.hbp.current = some c → c.disposition ≠ .service ∧ c.disposition ≠ .capture)
      ∧ s.jmg.headerWrite = none ∧ s.mbp.outstanding = none ∧ s.mbp.waitHost = none ∧ s.mbp.waitEngine = none
      ∧ s.mbp.waitService = none := by
  unfold restartReady
  cases s.hbp.current <;> simp [and_assoc]

/-- Work in flight keeps the restart waiting (R94). -/
theorem restartState_of_work (s : State)
    (h : (∃ c, s.hbp.current = some c ∧ (c.disposition = .service ∨ c.disposition = .capture))
      ∨ s.jmg.headerWrite ≠ none ∨ s.mbp.outstanding ≠ none) : restartState s = s := by
  refine if_neg fun ready => ?_
  obtain ⟨-, host, header, bus, -⟩ := (restartReady_iff s).mp ready
  rcases h with ⟨c, current, busy⟩ | busy | busy
  · obtain ⟨service, capture⟩ := host c current
    exact busy.elim service capture
  · exact busy header
  · exact busy bus

/-- SCAN begins with the first header read, unless the policy is BYPASS (R95). -/
theorem beginScan_reads (s : State) (h : policy s.straps ≠ .bypass) (hr : s.ckc.restartPending = false) :
    beginScan s =
      { s with
        jmg := { s.jmg with scan := .headers 0 [] }
        mbp :=
          { s.mbp with
            waitEngine :=
              some ⟨.engine, .scanHeaderRead, BitVec.ofNat 24 (journalBase s.straps), .read, .eight, 0xF, []⟩ } } := by
  simp [beginScan, h, presentEngine, hr, present, scanHeaderRequest, engineRead, headerHalfAddr, Copy.offset]

/-- Under BYPASS a start-up ends at once (R104, R105). -/
theorem beginScan_bypass (s : State) (h : policy s.straps = .bypass) (hs : s.ckc.startUp = true) :
    beginScan s = rejudge
      { s with
        ckc := { s.ckc with state := .bypass, startUp := false, frames := s.ckc.frames.map Frame.rested }
        acu := { s.acu with flags := s.acu.flags ||| 0x1000 } } := by
  simp [beginScan, h, enterState, hs, endsStartUp, endStartUp, raise, Flag.bit, Flag.number]

/-- Settles O6: with the work ended the restarted machine begins SCAN, by policy; with work in flight nothing
happens. -/
theorem restartTakesEffectWhenWorkHasEnded : Obligations.RestartTakesEffectWhenWorkHasEnded := by
  refine fun s pending => ⟨?_, fun work => ?_⟩
  · intro host header bus waitHost waitEngine waitService restarted
    have ready : restartReady s = true :=
      (restartReady_iff s).mpr ⟨pending, host, header, bus, waitHost, waitEngine, waitService⟩
    have takes : exec .restartEffect s = .next (beginScan restarted) := congrArg _ (if_pos ready)
    refine ⟨fun reads => ?_, fun bypass => ?_⟩
    · rw [takes, beginScan_reads _ (by exact reads) rfl]
    · rw [takes, beginScan_bypass _ (by exact bypass) rfl]
      have cleared : restarted.acu.flags ||| 0x1000 = 0x1000 := BitVec.zero_or
      rw [cleared]
      rfl
  · exact congrArg _ (restartState_of_work s work)

/-! ## The slot scan -/

/-- A slot is accepted when it validates and its serial is at least the stored one and above the last (R97). -/
theorem slotAccepted_iff (base : Nat) (h : Header) (last : Option Nat) (bs : List Byte) :
    slotAccepted base h last bs = true ↔ slotValidates base bs = true ∧ h.serial ≤ (recordOfBytes bs).serial
      ∧ ∀ m, last = some m → m < (recordOfBytes bs).serial := by
  cases last <;> simp [slotAccepted, and_assoc]

/-- The ENGINE read of a slot is presented while no restart is pending (R97). -/
theorem presentEngine_scanSlot (s u : State) (i : Nat) (h : u.ckc.restartPending = false) :
    presentEngine (scanSlotRequest s i) u =
      { u with
        mbp :=
          { u.mbp with waitEngine := some ⟨.engine, .scanSlotRead, slotAddr s.straps i, .read, .four, 0xF, []⟩ } } := by
  simp [presentEngine, h, present, scanSlotRequest, engineRead]

/-- A slot read of the scan that completes goes on where the slot is accepted, and ends the scan otherwise (R97). -/
theorem scanSlotReadEnded_done (s : State) (i : Nat) (last : Option Nat) (h : Header) (cells : Beats)
    (scan : s.jmg.scan = .slots i last h) :
    scanSlotReadEnded (.done cells) s =
      if slotAccepted (journalBase s.straps) h last (bytesOfCells (takeBeats 4 cells)) = true then
        examineSlot (i + 1) (some (recordOfBytes (bytesOfCells (takeBeats 4 cells))).serial) h s
      else endSlotScan i last h s := by
  rw [scanSlotReadEnded, scan]

/-- A slot read of the scan that fails is presented again (R97). -/
theorem scanSlotReadEnded_error (s : State) (i : Nat) (last : Option Nat) (h : Header)
    (scan : s.jmg.scan = .slots i last h) : scanSlotReadEnded .error s = presentEngine (scanSlotRequest s i) s := by
  rw [scanSlotReadEnded, scan]

/-- RECOVER entered during a start-up leaves it going on (R105). -/
theorem enterRecover (s : State) :
    enterState .recover s = rejudge { s with ckc := { s.ckc with state := .recover } } := by
  simp [enterState, endsStartUp]

/-- AWAIT entered from a start-up ends it (R100, R105). -/
theorem enterAwait_ends_startUp (s : State) (h : s.ckc.startUp = true) :
    enterState .await s = rejudge
      { s with
        ckc := { s.ckc with state := .await, startUp := false, frames := s.ckc.frames.map Frame.rested }
        acu := { s.acu with flags := s.acu.flags ||| 0x1000 } } := by
  simp [enterState, h, endsStartUp, endStartUp, raise, Flag.bit, Flag.number]

/-- The Replay Engine when a start-up replay has been handed to it (R72, R99). -/
def replayLoaded (h : Header) (st : RpeStep) (serial : Nat) (r : Rpe) : Rpe :=
  { r with
    step := st
    target := h.fields.target
    serialBound := serial
    source := .start
    retargetPending := false
    partialUndo := false
    record := none
    haltReason := .none
    haltItem := .none
    skipOwed := false
    openingOwed := false }

/-- A REPLAYING header leads straight to the walk (R102). -/
theorem startReplay_replaying (h : Header) (s : State) (hs : h.fields.state = .replaying) :
    startReplay h s = walkHead
      { rejudge { s with ckc := { s.ckc with state := .recover } } with
        rpe := replayLoaded h s.rpe.step s.jmg.nextSerial s.rpe } := by
  simp [startReplay, hs, enterRecover, loadUndo, clearHalt, replayLoaded]

/-- Any other leads to the opening header (R99). -/
theorem startReplay_opening (h : Header) (s : State) (hs : h.fields.state ≠ .replaying) :
    startReplay h s = requestHeader .undoOpening (replayingHeader s.ckc.frames h.fields.target s.jmg.top)
      { rejudge { s with ckc := { s.ckc with state := .recover } } with
        rpe := replayLoaded h .opening s.jmg.nextSerial s.rpe } := by
  simp [startReplay, hs, enterRecover, loadUndo, clearHalt, replayLoaded, requestOpening, setRpeStep]

/-- The frame rebuilt at an index is that of its entry, with its own level and frame id (R5, R97). -/
theorem rebuiltFrames_getElem? (h : Header) (id : Word16) (i : Nat) (es : List LevelEntry) (k : Nat) :
    (rebuiltFrames h id i es)[k]? = es[k]?.map (rebuiltFrame h (id + BitVec.ofNat 16 k) (i + k)) := by
  induction es generalizing id i k with
  | nil => rfl
  | cons e es ih =>
    cases k with
    | zero => simp [rebuiltFrames]
    | succ k =>
      have next : id + 1 + BitVec.ofNat 16 k = id + BitVec.ofNat 16 (k + 1) := by
        rw [Nat.add_comm k 1, BitVec.ofNat_add, BitVec.add_assoc]
        rfl
      simp only [rebuiltFrames, List.getElem?_cons_succ, ih, next, Nat.add_right_comm i 1 k, Nat.add_assoc]

theorem rebuiltFrames_length (h : Header) (id : Word16) (i : Nat) (es : List LevelEntry) :
    (rebuiltFrames h id i es).length = es.length := by
  simpa using congrArg List.length (StackOrder.rebuiltFrames_levels h id i es)

/-- Settles O34: the accepted slot goes on to the next, any other ends the scan by header state and policy. -/
theorem slotScanRebuildsStackAndTop : Obligations.SlotScanRebuildsStackAndTop := by
  refine ⟨?_, ?_⟩
  · intro s i last h cells awaits scan pending bs n accepted slot entered undoing recover await ended
    have read : exec (.scanSlotReadEnd (.done cells)) s = .next
        (if slotAccepted (journalBase s.straps) h last bs = true then
          examineSlot (i + 1) (some n) h { s with mbp := answered s.mbp }
        else endSlotScan i last h { s with mbp := answered s.mbp }) :=
      congrArg _ ((memoryAnswers_of_awaits .scanSlotRead (.done cells) s awaits).trans
        (scanSlotReadEnded_done (endTransaction (.done cells) s) i last h cells scan))
    have accepts : slotAccepted (journalBase s.straps) h last bs = true ↔ accepted := slotAccepted_iff _ _ _ _
    have endsAt (top : Nat) (l : Option Nat) (known : h.fields.state = .opened ∨ h.fields.state = .replaying)
        (startUp : s.ckc.startUp = true) :
        endSlotScan top l h { s with mbp := answered s.mbp } = ended top (scannedSerial h.serial l) := by
      rcases known with known | known
      · by_cases hold : policy s.straps = .hold
        · refine (if_pos ⟨known, hold⟩).trans ((enterAwait_ends_startUp _ (by exact startUp)).trans ?_)
          simp only [ended, known]
          exact (if_pos hold).symm
        · refine (if_neg fun both => hold both.2).trans ((startReplay_opening h _ (by simp [known])).trans ?_)
          simp only [ended, known]
          exact (if_neg hold).symm
      · refine (if_neg (by simp [known])).trans ((startReplay_replaying h _ known).trans ?_)
        exact (if_pos known).symm
    refine ⟨fun yes room => ?_, ?_, fun known startUp => ⟨fun no => ?_, fun yes past => ?_⟩⟩
    · rw [read, if_pos (accepts.mpr yes), examineSlot, if_pos (by exact room)]
      exact congrArg _ (presentEngine_scanSlot _ _ _ pending)
    · refine congrArg _ ((memoryAnswers_of_awaits _ _ _ awaits).trans ?_)
      exact (scanSlotReadEnded_error (endTransaction .error s) i last h scan).trans
        (presentEngine_scanSlot _ _ _ pending)
    · rw [read, if_neg (mt accepts.mp no), endsAt _ _ known startUp]
      cases last <;> rfl
    · rw [read, if_pos (accepts.mpr yes), examineSlot, if_neg (by exact Nat.not_lt.mpr past), endsAt _ _ known startUp]
      rfl
  · intro h s bounded t n
    refine ⟨rebuildFrames_touches h s, rebuiltFrames_length h _ _ _, rfl, fun i e entry => ?_, rfl, rfl, rfl⟩
    have frame := rebuiltFrames_getElem? h s.ckc.nextFrameId 0 h.fields.entries i
    rw [entry, Nat.zero_add] at frame
    exact frame

end Sys2Proof.StartUp
end

section
/-! PROOF. Timeouts of the memory watch, the drain and the settling time (chapter 9), and the end of a wake
(chapter 5). -/

namespace Sys2Proof.TimeAndWake

set_option Elab.async false

open Sys2Proof.Machine Sys2Proof.Safety Sys2Proof.Laws Sys2Proof.Checkpoint

/-! ## Timeouts, drain and settle -/

/-- An ENGINE or SERVICE requester acts on a timeout as on an error (R169). -/
theorem endingConsequence_timeout (p : Purpose) (s : State)
    (h : p ∈ [Purpose.headerHalf, .scanHeaderRead, .scanSlotRead, .replaySlotRead, .restore, .wipeSlots, .slotLoad]) :
    endingConsequence p .timeout s = endingConsequence p .error s := by
  cases p with
  | passThrough | preImageRead | append | captureWrite => simp at h
  | headerHalf | scanHeaderRead | scanSlotRead | replaySlotRead | restore | wipeSlots | slotLoad => rfl

theorem insertEntries_hbp (l : Nat) (cells : List Addr) (s : State) : (insertEntries l cells s).hbp = s.hbp :=
  insertEntries_touches l cells s .hbp (by decide)

/-- A capture that ends with a refusal is discarded with an entry for each completed record, and releases the gate
(R39). -/
theorem finishCapture_refused (k : Capture) (why : Reason) (s : State) (c : Current) (h : s.hbp.current = some c) :
    finishCapture k (some why) s = refuseTxn c.txn why
      { insertEntries k.level (k.list.take k.appended) s with
        cpe := { (insertEntries k.level (k.list.take k.appended) s).cpe with capture := none }
        ckc := { (insertEntries k.level (k.list.take k.appended) s).ckc with gateHeld := false } } := by
  have current : (insertEntries k.level (k.list.take k.appended) s).hbp.current = some c := by
    rw [insertEntries_hbp, h]
  exact refuse_of_current _ _ c current

/-- Settles O55: each requester's timeout is its error but for the reason, and each phase ends in FREE by its own
event. -/
theorem timeoutsDrainAndTheBusGoesFree : Obligations.TimeoutsDrainAndTheBusGoesFree := by
  refine ⟨⟨fun s x out => ?_, fun p u other => endingConsequence_timeout p u other, fun u c current => ?_,
    fun u k h capture current => ?_⟩, fun s notHeld out => ⟨fun drain => ?_, fun settle => ?_, fun free => ?_⟩⟩
  · show Host.Outcome.next (watchExpires s) = _
    rw [watchExpires, out]
    rfl
  · exact (passThroughEnded_of_current .timeout u c current).trans (refuse_of_current _ _ c current)
  · have refused := finishCapture_refused k .memoryTimeout u h current
    refine ⟨fun none => ?_, ?_, ?_⟩
    · rw [none] at refused
      show preImageReadEnded .timeout u = _
      rw [preImageReadEnded, capture]
      exact refused
    · show appendEnded .timeout u = _
      rw [appendEnded, capture]
      exact refused
    · show captureWriteEnded .timeout u = _
      rw [captureWriteEnded, capture]
      exact refused
  · simp [exec, execDrainEnd, execLateResponse, execSettleEnd, lateAnswer, endDrain, endSettle, freeBus, out, drain]
  · simp [exec, execDrainEnd, execLateResponse, execSettleEnd, lateAnswer, endDrain, endSettle, freeBus, out, settle,
      notHeld]
  · simp [exec, execDrainEnd, execLateResponse, execSettleEnd, lateAnswer, endDrain, endSettle, out, free]

/-! ## The events that a wake held -/

/-- The current transaction is none that the end of a wake would still move: it is in service, or a JOURNALED write that
waits before a shut gate (R8, R109). -/
def HostRests (s : State) : Prop :=
  ∀ c, s.hbp.current = some c →
    c.disposition = .service ∨ c.disposition = .capture
      ∨ c.disposition = .gate ∧ c.cls = .journaled ∧ c.txn.dir = .write ∧ s.ckc.state = .ready ∧ gateOpen s = false

/-- SCL is not held for the end of a wake (R196). -/
def NoWakeStall (s : State) : Prop := s.svp.stall ≠ some .wakeAddress ∧ ∀ b, s.svp.stall ≠ some (.wakeByte b)

theorem noWakeStall_of_none {s : State} (h : s.svp.stall = none) : NoWakeStall s := by simp [NoWakeStall, h]

theorem hostRests_of_none {s : State} (h : s.hbp.current = none) : HostRests s := by simp [HostRests, h]

/-- A change that leaves the transaction and the state alone and opens no gate lets the host rest. -/
theorem HostRests.of_same {s t : State} (h : HostRests s) (current : t.hbp.current = s.hbp.current)
    (state : t.ckc.state = s.ckc.state) (gate : gateOpen t = true → gateOpen s = true) : HostRests t := by
  intro c hc
  rw [current] at hc
  rcases h c hc with service | capture | ⟨waits, cls, dir, ready, shut⟩
  · exact .inl service
  · exact .inr (.inl capture)
  · have shut' : gateOpen t = false := Bool.eq_false_iff.mpr fun opened => by simp [gate opened] at shut
    exact .inr (.inr ⟨waits, cls, dir, state.trans ready, shut'⟩)

/-- In READY a JOURNALED write waits in GATE (R118). -/
theorem dispose_journaledWrite (c : Current) (s : State) (cls : c.cls = .journaled) (dir : c.txn.dir = .write)
    (ready : s.ckc.state = .ready) : dispose c s = setDisposition .gate s := by
  simp [dispose, cls, dir, ready, journaledFate]

/-- An event of a wake that was not held, or has been handled, changes nothing. -/
theorem host_idle {s : State} (h : HostRests s) : handleWakeEvent .host s = s := by
  show tryGate (rejudge s) = s
  have kept : rejudge s = s := by
    unfold rejudge
    split
    · rfl
    · rename_i c current
      rcases h c current with service | capture | ⟨waits, cls, dir, ready, -⟩
      · rw [service]
      · rw [capture]
      · rw [waits]
        have judges : holdsHost s.ckc.state = false := by rw [ready]; rfl
        dsimp only
        rw [judges, if_neg (by simp), dispose_journaledWrite c s cls dir ready]
        obtain ⟨txn, d, cls', policy⟩ := c
        obtain rfl : d = .gate := waits
        dsimp only [setDisposition]
        rw [current, Option.map_some, ← current]
  rw [kept]
  refine tryGate_of_not s ?_
  by_contra both
  obtain ⟨opened, waits⟩ := not_or.mp both
  push Not at waits
  obtain ⟨c, current, gate⟩ := waits
  rcases h c current with service | capture | ⟨-, -, -, -, shut⟩
  · simp [service] at gate
  · simp [capture] at gate
  · exact opened shut

theorem strobes_idle {s : State} (h : s.siu.wakeList = []) : handleWakeEvent .strobes s = s := by
  show arriveAll s.siu.wakeList { s with siu := { s.siu with wakeList := [] } } = s
  have same : { s with siu := { s.siu with wakeList := [] } } = s := by rw [← h]
  rw [same, h]
  rfl

theorem fault_idle {s : State} (h : s.siu.wakeFault = false) : handleWakeEvent .fault s = s := by
  show takeWakeFault s = s
  simp [takeWakeFault, h]

theorem service_idle {s : State} (h : NoWakeStall s) : handleWakeEvent .service s = s := by
  show releaseWakeStall s = s
  obtain ⟨address, byte⟩ := h
  unfold releaseWakeStall
  split
  · contradiction
  · exact absurd ‹_› (byte _)
  · rfl

/-- Only the event `e` acts on `s`, and once it has, to `t`, none does. -/
structure OnlyActs (e : WakeEvent) (s t : State) : Prop where
  others : ∀ c, c ≠ e → handleWakeEvent c s = s
  acts : handleWakeEvent e s = t
  after : ∀ c, handleWakeEvent c t = t

theorem handleWakeEvents_idle {s : State} (h : ∀ c, handleWakeEvent c s = s) (ws : List WakeEvent) :
    handleWakeEvents ws s = s := by
  induction ws with
  | nil => rfl
  | cons c ws ih => rw [handleWakeEvents, h c, ih]

/-- Where only one event acts, the order of the events does not matter. -/
theorem handleWakeEvents_one {e : WakeEvent} {s t : State} (h : OnlyActs e s t) {ws : List WakeEvent} (he : e ∈ ws) :
    handleWakeEvents ws s = t := by
  induction ws with
  | nil => simp at he
  | cons c ws ih =>
    rw [handleWakeEvents]
    by_cases same : c = e
    · rw [same, h.acts, handleWakeEvents_idle h.after]
    · rw [h.others c same]
      exact ih ((List.mem_cons.mp he).resolve_left (Ne.symm same))

/-- Where two events act, that which the order names first is handled first. -/
theorem handleWakeEvents_two {a b : WakeEvent} {s ta tb : State} (others : ∀ c, c ≠ a → c ≠ b → handleWakeEvent c s = s)
    (aFirst : OnlyActs b (handleWakeEvent a s) ta) (bFirst : OnlyActs a (handleWakeEvent b s) tb) (ne : a ≠ b)
    {ws : List WakeEvent} (ha : a ∈ ws) (hb : b ∈ ws) :
    handleWakeEvents ws s = if (ws.find? fun w => w = a || w = b) = some a then ta else tb := by
  induction ws with
  | nil => simp at ha
  | cons c ws ih =>
    rw [handleWakeEvents]
    by_cases isA : c = a
    · subst isA
      have later : b ∈ ws := (List.mem_cons.mp hb).resolve_left (Ne.symm ne)
      simpa using handleWakeEvents_one aFirst later
    · by_cases isB : c = b
      · subst isB
        have later : a ∈ ws := (List.mem_cons.mp ha).resolve_left ne
        simpa [isA] using handleWakeEvents_one bFirst later
      · rw [others c isA isB, ih ((List.mem_cons.mp ha).resolve_left (Ne.symm isA))
          ((List.mem_cons.mp hb).resolve_left (Ne.symm isB))]
        simp [isA, isB]

theorem mem_fullWakeOrder (order : List WakeEvent) (e : WakeEvent) : e ∈ fullWakeOrder order := by
  cases e <;> simp [fullWakeOrder]

/-- The event of two that an order names first, where `a` comes before `b` when the order names neither (log 10). -/
theorem find_fullWakeOrder {order : List WakeEvent} {a b : WakeEvent} (ne : a ≠ b)
    (default : ([.host, .strobes, .fault, .service].find? fun w : WakeEvent => w = a || w = b) = some a) :
    ((fullWakeOrder order).find? fun w => w = a || w = b) = some a
      ↔ (order.find? fun w => w = a || w = b) ≠ some b := by
  rw [fullWakeOrder, List.find?_append, default]
  cases found : order.find? fun w => w = a || w = b with
  | none => simp
  | some c =>
    have either : c = a ∨ c = b := by simpa using List.find?_some found
    rcases either with rfl | rfl
    · simpa using ne
    · simpa using ne.symm

/-! ## What each event does -/

/-- The machine after the strobes of a wake list of the given kinds have arrived at an empty queue (R134, R146). -/
def arrived (kinds : List QueueKind) (u : State) : State :=
  { u with
    ckc := { u.ckc with queue := (kinds.take 4).map fun k => ⟨.strobe, k⟩ }
    siu := { u.siu with wakeList := [] }
    acu :=
      { u.acu with
        flags := if kinds.length - 4 = 0 then u.acu.flags else u.acu.flags ||| 0x80
        counters := { u.acu.counters with strobesLost := satAdd u.acu.counters.strobesLost (kinds.length - 4) } } }

/-- The machine after the wake fault has been taken in READY; `acts` says that it empties the queue (R140, R146). -/
def faulted (acts : Prop) [Decidable acts] (u : State) : State :=
  { u with
    ckc := if acts then { u.ckc with queue := [], faultRequest := true } else u.ckc
    siu := { u.siu with wakeFault := false }
    acu :=
      { u.acu with
        flags := u.acu.flags ||| 0x100
        counters :=
          { u.acu.counters with
            cancelled :=
              if acts then satAdd u.acu.counters.cancelled u.ckc.queue.length else u.acu.counters.cancelled } } }

/-- The machine with a taken transaction waiting in GATE (R115, R118). -/
def gated (t : HostTxn) (u : State) : State :=
  { u with
    hbp :=
      { u.hbp with
        current :=
          some ⟨t, .gate, (lookupRegion u.hbp.regions t.addr).1, (lookupRegion u.hbp.regions t.addr).2⟩ } }

/-- Strobes arrive in their order while the queue has room, and the rest are lost (R133, R134). -/
theorem arriveAll_eq (es : List WakeEntry) (s : State) :
    arriveAll es s =
      { s with
        ckc :=
          { s.ckc with
            queue := s.ckc.queue ++
              ((es.map WakeEntry.kind).take (4 - s.ckc.queue.length)).map fun k => ⟨.strobe, k⟩ }
        acu :=
          { s.acu with
            flags := if es.length - (4 - s.ckc.queue.length) = 0 then s.acu.flags else s.acu.flags ||| 0x80
            counters :=
              { s.acu.counters with
                strobesLost := satAdd s.acu.counters.strobesLost (es.length - (4 - s.ckc.queue.length)) } } } := by
  induction es generalizing s with
  | nil => simp [arriveAll, satAdd_zero]
  | cons e es ih =>
    rw [arriveAll, ih]
    by_cases room : s.ckc.queue.length < 4
    · obtain ⟨m, left⟩ : ∃ m, 4 - s.ckc.queue.length = m + 1 := ⟨3 - s.ckc.queue.length, by omega⟩
      have next : 4 - (s.ckc.queue.length + 1) = m := by omega
      simp [strobeArrival, queueHasRoom, room, left, next]
    · have full : 4 - s.ckc.queue.length = 0 := by omega
      simp [strobeArrival, queueHasRoom, room, full, Counters.add, satAdd_one_then, Flag.bit, Flag.number,
        BitVec.or_assoc]

theorem strobes_arrive {s : State} (h : s.ckc.queue = []) :
    handleWakeEvent .strobes s = arrived (s.siu.wakeList.map WakeEntry.kind) s := by
  show arriveAll s.siu.wakeList { s with siu := { s.siu with wakeList := [] } } = _
  rw [arriveAll_eq]
  simp [arrived, h]

theorem fault_taken {s : State} {acts : Prop} [Decidable acts]
    (h : acts ↔ s.siu.faultAction = .undoAll ∧ s.ckc.frames ≠ []) (held : s.siu.wakeFault = true)
    (ready : s.ckc.state = .ready) : handleWakeEvent .fault s = faulted acts s := by
  show takeWakeFault s = _
  rw [takeWakeFault, if_pos held, takeFault]
  cases action : s.siu.faultAction with
  | alertOnly => simp [faulted, h, action, raise, Flag.bit, Flag.number]
  | undoAll =>
    by_cases empty : s.ckc.frames = []
    · simp [faulted, h, action, faultEffect, ready, depth, empty, raise, Flag.bit, Flag.number]
    · simp [faulted, h, action, faultEffect, ready, depth, empty, raise, Flag.bit, Flag.number, discardQueue,
        setFaultRequest, count, Counters.add]

theorem service_released {s : State} (h : s.svp.stall = none ∨ s.svp.stall = some .wakeAddress) :
    handleWakeEvent .service s = { s with svp := { s.svp with stall := none } } := by
  show releaseWakeStall s = _
  rcases h with free | held
  · rw [releaseWakeStall, free]
    dsimp only
    rw [← free]
  · rw [releaseWakeStall, held]

theorem service_writes {s : State} {b : Byte} (h : s.svp.stall = some (.wakeByte b)) :
    handleWakeEvent .service s = writeAndAdvance b { s with svp := { s.svp with stall := none } } := by
  show releaseWakeStall s = _
  rw [releaseWakeStall, h]

section
variable {s : State} {c : Current} (current : s.hbp.current = some c) (untaken : c.disposition = .untaken)
  (notHeld : s.resetHeld = false) (pending : s.ckc.restartPending = false) (ready : s.ckc.state = .ready)
include current untaken notHeld pending ready

/-- In READY the held transaction is taken, and enters the gate if it waits there and R8 lets it (R109, R110). -/
theorem host_taken : handleWakeEvent .host s = tryGate (takeTxn c.txn s) := by
  have takes : canTake s = true := by simp [canTake, notHeld, pending, ready]
  show tryGate (rejudge s) = _
  rw [rejudge, current]
  dsimp only
  rw [untaken]
  dsimp only
  rw [if_pos takes]

/-- A held JOURNALED write comes to GATE, and from there to the gate's entry (R118, R120). -/
theorem host_journaledWrite (passes : firstFailedCheck s c.txn = none) (full : isEmptyWrite c.txn = false)
    (cls : (lookupRegion s.hbp.regions c.txn.addr).1 = .journaled) (dir : c.txn.dir = .write) :
    handleWakeEvent .host s = tryGate (gated c.txn s) := by
  rw [host_taken current untaken notHeld pending ready, takeTxn, passes]
  dsimp only
  rw [if_neg (by simp [full]), dispose_journaledWrite _ _ (by exact cls) (by exact dir) (by exact ready)]
  rfl

end

/-! ## What the gate makes of the held write -/

theorem refuse_current (why : Reason) (s : State) : (refuse why s).hbp.current = none := by
  unfold refuse
  split
  · assumption
  · rfl

theorem finishCapture_refusal_current (k : Capture) (why : Reason) (s : State) :
    (finishCapture k (some why) s).hbp.current = none :=
  refuse_current why _

theorem finishCapture_ckc (k : Capture) (why : Option Reason) (s : State) :
    (finishCapture k why s).ckc = { s.ckc with gateHeld := false } := by
  have inserted : (insertEntries k.level (k.list.take k.appended) s).ckc = s.ckc :=
    insertEntries_touches _ _ s .ckc (by decide)
  refine (respond_touches why [] _ .ckc (by decide)).trans ?_
  simp [inserted]

/-- Step CHECK either keeps the transaction with the capture or refuses it (R33, R34). -/
theorem checkCapture_current (k : Capture) (s : State) :
    (checkCapture k s).hbp.current = s.hbp.current ∨ (checkCapture k s).hbp.current = none := by
  unfold checkCapture
  dsimp only
  split
  · exact .inl (congrArg Hbp.current (beginHostWrite_touches k _ .hbp (by decide)))
  split
  · exact .inr (finishCapture_refusal_current _ _ _)
  split
  · exact .inr (finishCapture_refusal_current _ _ _)
  split
  · exact .inl (congrArg Hbp.current (beginPreImageRead_touches k s .hbp (by decide)))
  split
  · exact .inr (finishCapture_refusal_current _ _ _)
  · exact .inl (congrArg Hbp.current (beginBreach_touches k _ .hbp (by decide)))

/-- The gate's entry leaves the controller's state and queue, and the depth, as they were. -/
structure SameStand (s t : State) : Prop where
  state : t.ckc.state = s.ckc.state
  queue : t.ckc.queue = s.ckc.queue
  empty : t.ckc.frames = [] ↔ s.ckc.frames = []

theorem SameStand.of_ckc {s t : State} (h : t.ckc = s.ckc) : SameStand s t := ⟨by rw [h], by rw [h], by rw [h]⟩

theorem finishCapture_stand (k : Capture) (why : Option Reason) (s : State) : SameStand s (finishCapture k why s) := by
  have after := finishCapture_ckc k why s
  exact ⟨by rw [after], by rw [after], by rw [after]⟩

theorem checkCapture_stand (k : Capture) (s : State) : SameStand s (checkCapture k s) := by
  unfold checkCapture
  dsimp only
  split
  · exact .of_ckc (beginHostWrite_touches k _ .ckc (by decide))
  split
  · exact finishCapture_stand k _ s
  split
  · exact finishCapture_stand k _ s
  split
  · exact .of_ckc (beginPreImageRead_touches k s .ckc (by decide))
  split
  · obtain ⟨state, queue, empty⟩ := finishCapture_stand k (some .journalFull) (raise .full s)
    exact ⟨state, queue, empty⟩
  · have broken : (beginBreach k (raise .full s)).ckc = (breakFrames s).ckc :=
      beginHostWrite_touches _ _ .ckc (by decide)
    exact ⟨by rw [broken]; rfl, by rw [broken]; rfl, by rw [broken]; simp [breakFrames]⟩

theorem enterGate_stand (c : Current) (s : State) : SameStand s (enterGate c s) := by
  unfold enterGate
  dsimp only
  split
  · have kept := passThrough_touches c.txn { s with ckc := { s.ckc with gateHeld := true } } .ckc (by decide)
    exact ⟨by rw [kept], by rw [kept], by rw [kept]⟩
  · obtain ⟨state, queue, empty⟩ := checkCapture_stand (newCapture c s)
      (setCapture (newCapture c s) (setDisposition .capture { s with ckc := { s.ckc with gateHeld := true } }))
    exact ⟨state, queue, empty⟩

theorem tryGate_stand (s : State) : SameStand s (tryGate s) := by
  unfold tryGate
  split
  · split
    · exact enterGate_stand _ s
    · exact .of_ckc rfl
  · exact .of_ckc rfl

/-- A write that has entered the gate is in service, or answered. -/
theorem enterGate_rests (c : Current) (s : State) (h : s.hbp.current = some c) : HostRests (enterGate c s) := by
  intro d hd
  unfold enterGate at hd
  dsimp only at hd
  split at hd
  · rw [passThrough, present_mirrorRequest] at hd
    simp only [setDisposition, h, Option.map_some, Option.some.injEq] at hd
    exact .inl (by rw [← hd])
  · rcases checkCapture_current (newCapture c s)
      (setCapture (newCapture c s) (setDisposition .capture { s with ckc := { s.ckc with gateHeld := true } }))
      with same | none
    · rw [same] at hd
      simp only [setCapture_hbp, setDisposition, h, Option.map_some, Option.some.injEq] at hd
      exact .inr (.inl (by rw [← hd]))
    · rw [none] at hd
      cases hd

/-- A JOURNALED write that waits in GATE in READY rests once its entry has been tried. -/
theorem tryGate_rests (c : Current) (s : State) (h : s.hbp.current = some c) (waits : c.disposition = .gate)
    (cls : c.cls = .journaled) (dir : c.txn.dir = .write) (ready : s.ckc.state = .ready) : HostRests (tryGate s) := by
  cases gate : gateOpen s with
  | true =>
    have enters : tryGate s = enterGate c s := by simp [tryGate, h, waits, gate]
    rw [enters]
    exact enterGate_rests c s h
  | false =>
    rw [tryGate_of_not s (.inl gate)]
    intro d hd
    obtain rfl : c = d := Option.some.inj (h.symm.trans hd)
    exact .inr (.inr ⟨waits, cls, dir, ready, gate⟩)

/-! ## A held data byte -/

/-- Nothing that a wake held is left: the state in which its end does no more. -/
def NothingHeld (s : State) : Prop :=
  s.hbp.current = none ∧ s.siu.wakeList = [] ∧ s.siu.wakeFault = false ∧ NoWakeStall s

theorem nothingHeld_of_touches {s t : State} {bs : List Block} (ht : Touches bs s t) (h : NothingHeld s)
    (hb : Block.hbp ∉ bs ∧ Block.siu ∉ bs ∧ Block.svp ∉ bs := by decide) : NothingHeld t := by
  obtain ⟨hhbp, hsiu, hsvp⟩ := hb
  have sameHbp : t.hbp = s.hbp := ht .hbp hhbp
  have sameSiu : t.siu = s.siu := ht .siu hsiu
  have sameSvp : t.svp = s.svp := ht .svp hsvp
  unfold NothingHeld NoWakeStall
  rw [sameHbp, sameSiu, sameSvp]
  exact h

theorem enterState_nothingHeld {s : State} (st : CtrlState) (h : NothingHeld s) : NothingHeld (enterState st s) := by
  have entered (u : State) (hu : NothingHeld u) : NothingHeld (rejudge u) := by
    obtain ⟨none, -⟩ := id hu
    rw [rejudge, none]
    exact hu
  apply entered
  split
  · exact h
  · exact h

theorem resumeReplay_nothingHeld {s : State} (h : NothingHeld s) : NothingHeld (resumeReplay s) := by
  have entered := enterState_nothingHeld .replay h
  unfold resumeReplay
  dsimp only
  split
  · exact nothingHeld_of_touches (requestOpening_touches _) entered
  · exact nothingHeld_of_touches (walkHead_touches _) entered

theorem skipReplay_nothingHeld {s : State} (h : NothingHeld s) : NothingHeld (skipReplay s) := by
  have entered := enterState_nothingHeld .replay h
  unfold skipReplay
  dsimp only
  split
  · exact nothingHeld_of_touches (beginRetarget_touches _) entered
  · exact nothingHeld_of_touches (walkHead_touches _) entered

theorem formatJournal_nothingHeld {s : State} (h : NothingHeld s) : NothingHeld (formatJournal s) :=
  nothingHeld_of_touches (requestHeader_touches _ _ _) (enterState_nothingHeld .wipe h)

theorem immediate_nothingHeld {s : State} (c : Bool) (f : State → State) (hf : ∀ u, NothingHeld u → NothingHeld (f u))
    (h : NothingHeld s) : NothingHeld (immediate c f s) := by
  unfold immediate
  split
  · exact hf _ h
  · exact h

theorem serviceArrival_nothingHeld {s : State} (k : QueueKind) (h : NothingHeld s) :
    NothingHeld (serviceArrival k s) := by
  unfold serviceArrival
  split <;> exact h

theorem issueCommand_nothingHeld {s : State} (c : CmdCode) (h : NothingHeld s) : NothingHeld (issueCommand s c) := by
  cases c with
  | mark | keep | undo | undoAll | undoTo => exact serviceArrival_nothingHeld _ h
  | resume => exact immediate_nothingHeld _ _ (fun _ => resumeReplay_nothingHeld) h
  | skip => exact immediate_nothingHeld _ _ (fun _ => skipReplay_nothingHeld) h
  | abandon => exact immediate_nothingHeld _ _ (fun _ => nothingHeld_of_touches (abandonReplay_touches _)) h
  | sync => exact immediate_nothingHeld _ _ (fun _ => nothingHeld_of_touches (syncHeader_touches _)) h
  | format => exact immediate_nothingHeld _ _ (fun _ => formatJournal_nothingHeld) h
  | quiesce => exact immediate_nothingHeld _ _ (fun _ => nothingHeld_of_touches (enterDormant_touches _)) h
  | restart => exact immediate_nothingHeld _ _ (fun _ => nothingHeld_of_touches (beginRestart_touches _)) h
  | flush => exact immediate_nothingHeld _ _ (fun _ => nothingHeld_of_touches (discardQueue_touches _)) h
  | clearCounts => exact immediate_nothingHeld _ clearCountsEffect (fun _ hu => hu) h
  | popRefusal => exact immediate_nothingHeld _ popRefusalEffect (fun _ hu => hu) h

theorem judged_nothingHeld {s : State} (c : Bool) (f : State → State) (hf : ∀ u, NothingHeld u → NothingHeld (f u))
    (h : NothingHeld s) : NothingHeld (judged c f s) := by
  unfold judged
  split
  · exact hf _ h
  · exact h

theorem commitRegion_nothingHeld {s : State} (h : NothingHeld s) : NothingHeld (commitRegion s) := by
  unfold commitRegion
  dsimp only
  split
  · exact h
  split
  · exact h
  split <;> exact h

/-- A SLOTLOAD write can hold SCL for a load, which is no wake (R192). -/
theorem writeSlotload_nothingHeld {s : State} (h : NothingHeld s) : NothingHeld (writeSlotload s) := by
  obtain ⟨current, list, fault, -⟩ := id h
  unfold writeSlotload
  split
  · exact ⟨current, list, fault, by simp [NoWakeStall]⟩
  · exact h

theorem takeValue_nothingHeld {s : State} (r : Reg) (v : Nat) (h : NothingHeld s) : NothingHeld (takeValue r v s) := by
  cases r with
  | cmd =>
    unfold takeValue writeCmd
    dsimp only
    split
    · exact issueCommand_nothingHeld _ h
    · exact h
  | regcommit => exact judged_nothingHeld _ _ (fun _ => commitRegion_nothingHeld) h
  | slotload => exact judged_nothingHeld _ _ (fun _ => writeSlotload_nothingHeld) h
  | page | highwater | cmdtag | cmdframe | strobecfg | strobetag | ticksel | timercfg | warnat | expireat | memwatch
  | regidx | regclass | regbase | reglimit | slotidx | frameidx | flags | masks | ctrsel =>
    exact judged_nothingHeld _ _ (fun _ hu => hu) h
  | _ => exact h

theorem writeAndAdvance_nothingHeld {s : State} (b : Byte) (h : NothingHeld s) : NothingHeld (writeAndAdvance b s) := by
  suffices written : NothingHeld (writeAtIndex b s) from written
  unfold writeAtIndex
  split
  · exact h
  split
  · exact h
  unfold writeRegByte
  split
  · exact h
  split
  · exact h
  · exact takeValue_nothingHeld _ _ h

/-! ## The end of the wake -/

theorem wake_idle {t : State} (host : HostRests t) (list : t.siu.wakeList = []) (fault : t.siu.wakeFault = false)
    (stall : NoWakeStall t) (c : WakeEvent) : handleWakeEvent c t = t := by
  cases c with
  | host => exact host_idle host
  | strobes => exact strobes_idle list
  | fault => exact fault_idle fault
  | service => exact service_idle stall

section
variable {s : State}

theorem host_siu : (handleWakeEvent .host s).siu = s.siu :=
  (tryGate_touches _ .siu (by decide)).trans (rejudge_touches s .siu (by decide))

theorem host_svp : (handleWakeEvent .host s).svp = s.svp :=
  (tryGate_touches _ .svp (by decide)).trans (rejudge_touches s .svp (by decide))

theorem strobes_siu : (handleWakeEvent .strobes s).siu = { s.siu with wakeList := [] } :=
  arriveAll_touches s.siu.wakeList { s with siu := { s.siu with wakeList := [] } } .siu (by decide)

theorem strobes_svp : (handleWakeEvent .strobes s).svp = s.svp :=
  arriveAll_touches s.siu.wakeList { s with siu := { s.siu with wakeList := [] } } .svp (by decide)

theorem fault_siu : (handleWakeEvent .fault s).siu = { s.siu with wakeFault := false } := by
  show (takeWakeFault s).siu = _
  cases held : s.siu.wakeFault with
  | true =>
    rw [takeWakeFault, if_pos held]
    exact takeFault_touches { s with siu := { s.siu with wakeFault := false } } .siu (by decide)
  | false => rw [takeWakeFault, if_neg (by simp [held]), ← held]

theorem fault_svp : (handleWakeEvent .fault s).svp = s.svp := takeWakeFault_touches s .svp (by decide)

theorem onlyActs_host (list : s.siu.wakeList = []) (fault : s.siu.wakeFault = false) (stall : NoWakeStall s)
    (rests : HostRests (handleWakeEvent .host s)) : OnlyActs .host s (handleWakeEvent .host s) where
  others c ne := by
    cases c with
    | host => contradiction
    | strobes => exact strobes_idle list
    | fault => exact fault_idle fault
    | service => exact service_idle stall
  acts := rfl
  after := wake_idle rests (by rw [host_siu, list]) (by rw [host_siu, fault]) (by rwa [NoWakeStall, host_svp])

theorem onlyActs_strobes (host : HostRests s) (fault : s.siu.wakeFault = false) (stall : NoWakeStall s)
    (rests : HostRests (handleWakeEvent .strobes s)) : OnlyActs .strobes s (handleWakeEvent .strobes s) where
  others c ne := by
    cases c with
    | host => exact host_idle host
    | strobes => contradiction
    | fault => exact fault_idle fault
    | service => exact service_idle stall
  acts := rfl
  after := wake_idle rests (by rw [strobes_siu]) (by rw [strobes_siu, fault]) (by rwa [NoWakeStall, strobes_svp])

theorem onlyActs_fault (host : HostRests s) (list : s.siu.wakeList = []) (stall : NoWakeStall s)
    (rests : HostRests (handleWakeEvent .fault s)) : OnlyActs .fault s (handleWakeEvent .fault s) where
  others c ne := by
    cases c with
    | host => exact host_idle host
    | strobes => exact strobes_idle list
    | fault => contradiction
    | service => exact service_idle stall
  acts := rfl
  after := wake_idle rests (by rw [fault_siu, list]) (by rw [fault_siu]) (by rwa [NoWakeStall, fault_svp])

theorem onlyActs_service (host : HostRests s) (list : s.siu.wakeList = []) (fault : s.siu.wakeFault = false)
    (after : NothingHeld (handleWakeEvent .service s)) : OnlyActs .service s (handleWakeEvent .service s) where
  others c ne := by
    cases c with
    | host => exact host_idle host
    | strobes => exact strobes_idle list
    | fault => exact fault_idle fault
    | service => contradiction
  acts := rfl
  after := by
    obtain ⟨current, list', fault', stall⟩ := after
    exact wake_idle (hostRests_of_none current) list' fault' stall

end

/-- CKC in READY when the wake ends, before the held events (R109). -/
def wokenOf (s : State) : State :=
  { s with ckc := { s.ckc with state := .ready, waking := false, wakeCount := 0 } }

theorem wakeEnd_eq {s : State} (order : List WakeEvent) (h : s.ckc.waking = true) :
    exec (.wakeEnd order) s = .next (handleWakeEvents (fullWakeOrder order) (wokenOf s)) :=
  congrArg _ (if_pos h)

/-- The end of a wake of which one event was held. -/
theorem wakeEnd_one {s t : State} {e : WakeEvent} (order : List WakeEvent) (h : s.ckc.waking = true)
    (acts : OnlyActs e (wokenOf s) t) : exec (.wakeEnd order) s = .next t := by
  rw [wakeEnd_eq order h, handleWakeEvents_one acts (mem_fullWakeOrder order e)]

/-- The end of a wake of which two events were held: `b` is first where the order names it before `a`. -/
theorem wakeEnd_two {s ta tb : State} {a b : WakeEvent} (order : List WakeEvent) (h : s.ckc.waking = true) (ne : a ≠ b)
    (default : ([.host, .strobes, .fault, .service].find? fun w : WakeEvent => w = a || w = b) = some a)
    (others : ∀ c, c ≠ a → c ≠ b → handleWakeEvent c (wokenOf s) = wokenOf s)
    (aFirst : OnlyActs b (handleWakeEvent a (wokenOf s)) ta)
    (bFirst : OnlyActs a (handleWakeEvent b (wokenOf s)) tb) :
    exec (.wakeEnd order) s =
      .next (if (order.find? fun w => w = a || w = b) = some b then tb else ta) := by
  rw [wakeEnd_eq order h, handleWakeEvents_two others aFirst bFirst ne (mem_fullWakeOrder order a)
    (mem_fullWakeOrder order b)]
  congr 1
  by_cases named : (order.find? fun w => w = a || w = b) = some b
  · rw [if_pos named, if_neg (mt (find_fullWakeOrder ne default).mp (not_not.mpr named))]
  · rw [if_neg named, if_pos ((find_fullWakeOrder ne default).mpr named)]

/-! ## The rests after an event -/

theorem arrived_rests {s : State} (kinds : List QueueKind) (h : HostRests s) (queue : s.ckc.queue = []) :
    HostRests (arrived kinds s) := by
  refine h.of_same rfl rfl fun opened => (gateOpen_iff s).mpr ?_
  obtain ⟨state, -, rest⟩ := (gateOpen_iff _).mp opened
  exact ⟨state, queue, rest⟩

theorem faulted_rests {s : State} (acts : Prop) [Decidable acts] (h : HostRests s) : HostRests (faulted acts s) := by
  by_cases fires : acts
  · refine h.of_same rfl (by simp [faulted, fires]) fun opened => ?_
    obtain ⟨-, -, -, request, -⟩ := (gateOpen_iff _).mp opened
    simp [faulted, fires] at request
  · refine h.of_same rfl (by simp [faulted, fires]) fun opened => ?_
    simpa [gateOpen, faulted, fires] using opened

end Sys2Proof.TimeAndWake
end

section
/-! PROOF. What the wake hands on when it ends, case by case (R109, R146, R196). -/

namespace Sys2Proof.WakeEnd

set_option Elab.async false

open Sys2Proof.Machine Sys2Proof.Safety Sys2Proof.Laws Sys2Proof.Checkpoint Sys2Proof.TimeAndWake

/-! ## A held strobe, FAULT or byte -/

/-- The machine when the wake ends with SCL released. -/
def releasedOf (s : State) : State := { wokenOf s with svp := { s.svp with stall := none } }

section
variable {s : State} (order : List WakeEvent) (waking : s.ckc.waking = true)
include waking

theorem wakeEnd_service (list : s.siu.wakeList = []) (fault : s.siu.wakeFault = false) (current : s.hbp.current = none)
    (after : NothingHeld (handleWakeEvent .service (wokenOf s))) :
    exec (.wakeEnd order) s = .next (handleWakeEvent .service (wokenOf s)) :=
  wakeEnd_one order waking (onlyActs_service (hostRests_of_none current) list fault after)

theorem wakeEnd_address (list : s.siu.wakeList = []) (fault : s.siu.wakeFault = false) (current : s.hbp.current = none)
    (stall : s.svp.stall = none ∨ s.svp.stall = some .wakeAddress) :
    exec (.wakeEnd order) s = .next (releasedOf s) := by
  have released : handleWakeEvent .service (wokenOf s) = releasedOf s := service_released stall
  have nothing : NothingHeld (releasedOf s) := ⟨current, list, fault, noWakeStall_of_none rfl⟩
  rw [wakeEnd_service order waking list fault current (released ▸ nothing), released]

/-- A held byte is written as REGISTER_WRITE writes it in READY (R196). -/
theorem wakeEnd_byte (b : Byte) (list : s.siu.wakeList = []) (fault : s.siu.wakeFault = false)
    (current : s.hbp.current = none) (stall : s.svp.stall = some (.wakeByte b)) (segment : s.svp.segment = .writing)
    (ack : s.svp.ack = true) (notHeld : s.resetHeld = false) :
    exec (.wakeEnd order) s = exec (.registerWrite b) (releasedOf s) := by
  have writes : handleWakeEvent .service (wokenOf s) = writeAndAdvance b (releasedOf s) := service_writes stall
  have nothing : NothingHeld (writeAndAdvance b (releasedOf s)) :=
    writeAndAdvance_nothingHeld b ⟨current, list, fault, noWakeStall_of_none rfl⟩
  have acked : setAck true (releasedOf s) = releasedOf s := by simp [setAck, releasedOf, ← ack]
  have heard : Hears (releasedOf s) := ⟨notHeld, rfl, by simp [releasedOf, wokenOf]⟩
  calc exec (.wakeEnd order) s
      = .next (handleWakeEvent .service (wokenOf s)) :=
        wakeEnd_service order waking list fault current (writes ▸ nothing)
    _ = .next (writeAndAdvance b (setAck true (releasedOf s))) := by rw [writes, acked]
    _ = exec (.registerWrite b) (releasedOf s) := congrArg _ (dataByte_heard _ b heard segment).symm

theorem wakeEnd_strobes (fault : s.siu.wakeFault = false) (current : s.hbp.current = none) (stall : s.svp.stall = none)
    (queue : s.ckc.queue = []) :
    exec (.wakeEnd order) s = .next (arrived (s.siu.wakeList.map WakeEntry.kind) (wokenOf s)) := by
  have arrives : handleWakeEvent .strobes (wokenOf s) = arrived (s.siu.wakeList.map WakeEntry.kind) (wokenOf s) :=
    strobes_arrive queue
  rw [← arrives]
  refine wakeEnd_one order waking (onlyActs_strobes (hostRests_of_none current) fault (noWakeStall_of_none stall) ?_)
  rw [arrives]
  exact hostRests_of_none current

variable {acts : Prop} [Decidable acts] (fires : acts ↔ s.siu.faultAction = .undoAll ∧ s.ckc.frames ≠ [])
include fires

theorem wakeEnd_fault (list : s.siu.wakeList = []) (fault : s.siu.wakeFault = true) (current : s.hbp.current = none)
    (stall : s.svp.stall = none) : exec (.wakeEnd order) s = .next (faulted acts (wokenOf s)) := by
  have takes : handleWakeEvent .fault (wokenOf s) = faulted acts (wokenOf s) := fault_taken fires fault rfl
  rw [← takes]
  refine wakeEnd_one order waking (onlyActs_fault (hostRests_of_none current) list (noWakeStall_of_none stall) ?_)
  rw [takes]
  exact hostRests_of_none current

/-- Strobes and the wake fault: the arrivals are discarded by a fault after them, or join behind one before them. -/
theorem wakeEnd_strobes_and_fault (fault : s.siu.wakeFault = true) (current : s.hbp.current = none)
    (stall : s.svp.stall = none) (queue : s.ckc.queue = []) :
    exec (.wakeEnd order) s = .next
      (if (order.find? fun w => w = .strobes || w = .fault) = some .fault then
        arrived (s.siu.wakeList.map WakeEntry.kind) (faulted acts (wokenOf s))
      else faulted acts (arrived (s.siu.wakeList.map WakeEntry.kind) (wokenOf s))) := by
  have rests (u : State) (h : u.hbp = s.hbp) : HostRests u := hostRests_of_none (by rw [h, current])
  have strobesFirst : handleWakeEvent .strobes (wokenOf s) = arrived (s.siu.wakeList.map WakeEntry.kind) (wokenOf s) :=
    strobes_arrive queue
  have faultFirst : handleWakeEvent .fault (wokenOf s) = faulted acts (wokenOf s) := fault_taken fires fault rfl
  have thenFault : handleWakeEvent .fault (arrived (s.siu.wakeList.map WakeEntry.kind) (wokenOf s))
      = faulted acts (arrived (s.siu.wakeList.map WakeEntry.kind) (wokenOf s)) := fault_taken fires fault rfl
  have thenStrobes : handleWakeEvent .strobes (faulted acts (wokenOf s))
      = arrived (s.siu.wakeList.map WakeEntry.kind) (faulted acts (wokenOf s)) :=
    strobes_arrive (by by_cases h : acts <;> simp [faulted, h, wokenOf, queue])
  refine wakeEnd_two order waking (by decide) (by decide) (fun c ne ne' => ?_) ?_ ?_
  · cases c with
    | host => exact host_idle (rests _ rfl)
    | strobes | fault => contradiction
    | service => exact service_idle (noWakeStall_of_none stall)
  · rw [strobesFirst, ← thenFault]
    exact onlyActs_fault (rests _ rfl) rfl (noWakeStall_of_none stall) (thenFault ▸ rests _ rfl)
  · rw [faultFirst, ← thenStrobes]
    exact onlyActs_strobes (rests _ rfl) rfl (noWakeStall_of_none stall) (thenStrobes ▸ rests _ rfl)

end

/-! ## A held transaction that needs no gate -/

/-- The machine with a transaction that has passed the checks, before its disposal (R115). -/
def classed (t : HostTxn) (s : State) : State :=
  { s with
    hbp :=
      { s.hbp with
        current :=
          some ⟨t, .held, (lookupRegion s.hbp.regions t.addr).1, (lookupRegion s.hbp.regions t.addr).2⟩ } }

section
variable {s : State} {t : HostTxn}

theorem takeTxn_failed (why : Reason) (h : firstFailedCheck s t = some why) : takeTxn t s = refuseTxn t why s := by
  rw [takeTxn, h]

section
variable (passes : firstFailedCheck s t = none)
include passes

/-- An empty write is disposed of at once, any other by class and state (R113, R118). -/
theorem takeTxn_passes :
    takeTxn t s =
      if isEmptyWrite t = true then
        disposeEmptyWrite ⟨t, .held, (lookupRegion s.hbp.regions t.addr).1, (lookupRegion s.hbp.regions t.addr).2⟩
          (classed t s)
      else
        dispose ⟨t, .held, (lookupRegion s.hbp.regions t.addr).1, (lookupRegion s.hbp.regions t.addr).2⟩
          (classed t s) := by
  rw [takeTxn, passes]
  rfl

theorem takeTxn_barred (cls : (lookupRegion s.hbp.regions t.addr).1 = .barred) :
    takeTxn t s = refuseTxn t .barred s := by
  rw [takeTxn_passes passes, disposeEmptyWrite, dispose, cls]
  dsimp only
  rw [ite_self]
  exact refuseTxn_of_current t .barred s _ s.hbp.answer

/-- A STEADY write with a level open is refused (R118). -/
theorem takeTxn_steadyLocked (cls : (lookupRegion s.hbp.regions t.addr).1 = .steady) (levels : s.ckc.frames ≠ [])
    (dir : t.dir = .write) : takeTxn t s = refuseTxn t .steadyLocked s := by
  have deep : depth (classed t s) ≠ 0 := mt (depth_eq_zero _).mp levels
  rw [takeTxn_passes passes, disposeEmptyWrite, dispose, cls]
  dsimp only
  rw [if_pos deep, if_pos (And.intro dir deep), ite_self]
  exact refuseTxn_of_current t .steadyLocked s _ s.hbp.answer

/-- An empty write that no class refuses is answered OKAY (R113). -/
theorem takeTxn_empty (empty : isEmptyWrite t = true) (cls : (lookupRegion s.hbp.regions t.addr).1 ≠ .barred)
    (unlocked : ¬ ((lookupRegion s.hbp.regions t.addr).1 = .steady ∧ s.ckc.frames ≠ [])) :
    takeTxn t s = answerOkay [] s := by
  rw [takeTxn_passes passes, if_pos empty, disposeEmptyWrite]
  cases class_ : (lookupRegion s.hbp.regions t.addr).1 with
  | barred => contradiction
  | pass | journaled => rfl
  | steady =>
    have flat : depth (classed t s) = 0 := (depth_eq_zero _).mpr (by_contra fun levels => unlocked ⟨class_, levels⟩)
    dsimp only
    rw [if_neg (by simp [flat])]
    rfl

/-- A transaction that its class lets pass is put in SERVICE (R118, R121). -/
theorem takeTxn_service (full : isEmptyWrite t = false) (ready : s.ckc.state = .ready)
    (pending : s.ckc.restartPending = false)
    (lets : (lookupRegion s.hbp.regions t.addr).1 = .pass
      ∨ t.dir = .read ∧ (lookupRegion s.hbp.regions t.addr).1 ≠ .barred
      ∨ (lookupRegion s.hbp.regions t.addr).1 = .steady ∧ s.ckc.frames = []) :
    takeTxn t s = passThrough t (classed t s) := by
  have passes' : passOrHold t (classed t s) = passThrough t (classed t s) :=
    if_neg (by rw [show (classed t s).ckc.restartPending = false from pending]; simp)
  rw [takeTxn_passes passes, if_neg (by simp [full]), dispose]
  cases class_ : (lookupRegion s.hbp.regions t.addr).1 with
  | barred => simp [class_] at lets
  | pass => exact passes'
  | steady =>
    dsimp only
    rw [if_neg, passes']
    rintro ⟨dir, deep⟩
    simp only [class_, dir] at lets
    have flat : s.ckc.frames = [] := by simpa using lets
    exact deep ((depth_eq_zero _).mpr flat)
  | journaled =>
    have reads : t.dir = .read := by simpa [class_] using lets
    dsimp only
    rw [reads, show (classed t s).ckc.state = .ready from ready, journaledFate]
    exact passes'

end
end

section
variable {s : State} {c : Current} (order : List WakeEvent) (waking : s.ckc.waking = true)
  (stall : s.svp.stall = none) (current : s.hbp.current = some c) (untaken : c.disposition = .untaken)
  (notHeld : s.resetHeld = false) (pending : s.ckc.restartPending = false)
include waking stall current untaken notHeld pending

/-- A held transaction that is answered, refused or put in service at once ends the wake's work. -/
theorem wakeEnd_taken {u : State} (list : s.siu.wakeList = []) (fault : s.siu.wakeFault = false)
    (taken : takeTxn c.txn (wokenOf s) = u) (done : ∀ d, u.hbp.current = some d → d.disposition = .service) :
    exec (.wakeEnd order) s = .next u := by
  have noGate : tryGate u = u := tryGate_of_not u (.inr fun d hd => by simp [done d hd])
  have handled : handleWakeEvent .host (wokenOf s) = u := by
    rw [host_taken (s := wokenOf s) current untaken notHeld pending rfl, taken, noGate]
  rw [← handled]
  refine wakeEnd_one order waking (onlyActs_host list fault (noWakeStall_of_none stall) ?_)
  rw [handled]
  exact fun d hd => .inl (done d hd)

/-! ## A held JOURNALED write -/

variable (passes : firstFailedCheck (wokenOf s) c.txn = none) (full : isEmptyWrite c.txn = false)
  (cls : (lookupRegion s.hbp.regions c.txn.addr).1 = .journaled) (dir : c.txn.dir = .write)
include passes full cls dir

omit waking stall in
/-- The held write comes to the gate from the woken part, and from it after the strobes or the fault. -/
theorem host_to_gate {v : State} (hbp : v.hbp = s.hbp) (straps : v.straps = s.straps) (held : v.resetHeld = s.resetHeld)
    (pend : v.ckc.restartPending = s.ckc.restartPending) (ready : v.ckc.state = .ready) :
    handleWakeEvent .host v = tryGate (gated c.txn v) ∧ HostRests (handleWakeEvent .host v) := by
  have passes' : firstFailedCheck v c.txn = none := by
    rw [firstFailedCheck, straps, ready]
    exact passes
  have class_ : (lookupRegion v.hbp.regions c.txn.addr).1 = .journaled := by rw [hbp, cls]
  have comes : handleWakeEvent .host v = tryGate (gated c.txn v) :=
    host_journaledWrite (by rw [hbp, current]) untaken (by rw [held, notHeld]) (by rw [pend, pending]) ready passes'
      full class_ dir
  refine ⟨comes, ?_⟩
  rw [comes]
  exact tryGate_rests _ _ rfl rfl class_ dir ready

/-- With nothing else held the write tries the gate (R120). -/
theorem wakeEnd_gate (list : s.siu.wakeList = []) (fault : s.siu.wakeFault = false) :
    exec (.wakeEnd order) s = exec .gateEntry (gated c.txn (wokenOf s)) := by
  obtain ⟨comes, rests⟩ := host_to_gate current untaken notHeld pending passes full cls dir (v := wokenOf s) rfl rfl rfl
    rfl rfl
  rw [wakeEnd_one order waking (onlyActs_host list fault (noWakeStall_of_none stall) rests), comes]
  rfl

omit waking stall passes full dir untaken notHeld pending current cls in
/-- A gate behind a waiting command or a fault request lets nothing in (R8). -/
theorem gate_shut {u : State} (h : u.ckc.queue ≠ [] ∨ u.ckc.faultRequest = true) : tryGate u = u := by
  refine tryGate_of_not u (.inl (Bool.eq_false_iff.mpr fun opened => ?_))
  obtain ⟨-, queue, -, request, -⟩ := (gateOpen_iff u).mp opened
  rcases h with waits | asked
  · exact waits queue
  · simp [asked] at request

/-- The write goes ahead of the strobes, or waits in GATE behind their arrivals (log 10). -/
theorem wakeEnd_gate_and_strobes (queue : s.ckc.queue = []) (list : s.siu.wakeList ≠ [])
    (fault : s.siu.wakeFault = false) :
    exec (.wakeEnd order) s = .next
      (if (order.find? fun w => w = .host || w = .strobes) = some .strobes then
        arrived (s.siu.wakeList.map WakeEntry.kind) (gated c.txn (wokenOf s))
      else arrived (s.siu.wakeList.map WakeEntry.kind) (tryGate (gated c.txn (wokenOf s)))) := by
  obtain ⟨hostFirst, rests⟩ := host_to_gate current untaken notHeld pending passes full cls dir (v := wokenOf s) rfl rfl
    rfl rfl rfl
  have strobesFirst : handleWakeEvent .strobes (wokenOf s) = arrived (s.siu.wakeList.map WakeEntry.kind) (wokenOf s) :=
    strobes_arrive queue
  obtain ⟨comes, restsBehind⟩ := host_to_gate current untaken notHeld pending passes full cls dir
    (v := arrived (s.siu.wakeList.map WakeEntry.kind) (wokenOf s)) rfl rfl rfl rfl rfl
  have waits : tryGate (gated c.txn (arrived (s.siu.wakeList.map WakeEntry.kind) (wokenOf s)))
      = arrived (s.siu.wakeList.map WakeEntry.kind) (gated c.txn (wokenOf s)) :=
    gate_shut (.inl (by simp [gated, arrived, list]))
  have empty : (handleWakeEvent .host (wokenOf s)).ckc.queue = [] := by
    rw [hostFirst, (tryGate_stand _).queue]
    exact queue
  have thenStrobes : handleWakeEvent .strobes (handleWakeEvent .host (wokenOf s))
      = arrived (s.siu.wakeList.map WakeEntry.kind) (tryGate (gated c.txn (wokenOf s))) := by
    rw [strobes_arrive empty, host_siu, hostFirst]
    rfl
  refine wakeEnd_two order waking (by decide) (by decide) (fun e ne ne' => ?_) ?_ ?_
  · cases e with
    | host | strobes => contradiction
    | fault => exact fault_idle fault
    | service => exact service_idle (noWakeStall_of_none stall)
  · rw [← thenStrobes]
    refine onlyActs_strobes rests (by rw [host_siu]; exact fault) ?_ ?_
    · exact noWakeStall_of_none (by rw [host_svp]; exact stall)
    · rw [strobes_arrive empty]
      exact arrived_rests _ rests empty
  · rw [strobesFirst, ← waits, ← comes]
    exact onlyActs_host rfl fault (noWakeStall_of_none stall) restsBehind

variable {acts : Prop} [Decidable acts] (fires : acts ↔ s.siu.faultAction = .undoAll ∧ s.ckc.frames ≠ [])
include fires

/-- The write goes ahead of the fault, or waits in GATE behind the fault request (log 10). -/
theorem wakeEnd_gate_and_fault (list : s.siu.wakeList = []) (fault : s.siu.wakeFault = true) :
    exec (.wakeEnd order) s = .next
      (if (order.find? fun w => w = .host || w = .fault) = some .fault then
        tryGate (faulted acts (gated c.txn (wokenOf s)))
      else faulted acts (tryGate (gated c.txn (wokenOf s)))) := by
  obtain ⟨hostFirst, rests⟩ := host_to_gate current untaken notHeld pending passes full cls dir (v := wokenOf s) rfl rfl
    rfl rfl rfl
  have faultFirst : handleWakeEvent .fault (wokenOf s) = faulted acts (wokenOf s) := fault_taken fires fault rfl
  obtain ⟨comes, restsBehind⟩ := host_to_gate current untaken notHeld pending passes full cls dir
    (v := faulted acts (wokenOf s)) rfl rfl rfl (by by_cases h : acts <;> simp [faulted, h, wokenOf])
    (by by_cases h : acts <;> simp [faulted, h, wokenOf])
  have stand : SameStand (wokenOf s) (handleWakeEvent .host (wokenOf s)) := by
    obtain ⟨state, queue, empty⟩ := tryGate_stand (gated c.txn (wokenOf s))
    rw [hostFirst]
    exact ⟨state, queue, empty⟩
  have thenFault : handleWakeEvent .fault (handleWakeEvent .host (wokenOf s))
      = faulted acts (handleWakeEvent .host (wokenOf s)) := by
    refine fault_taken ?_ (by rw [host_siu]; exact fault) stand.state
    rw [host_siu, ne_eq, stand.empty]
    exact fires
  rw [← hostFirst, ← thenFault]
  refine wakeEnd_two order waking (by decide) (by decide) (fun e ne ne' => ?_) ?_ ?_
  · cases e with
    | host | fault => contradiction
    | strobes => exact strobes_idle list
    | service => exact service_idle (noWakeStall_of_none stall)
  · refine onlyActs_fault rests (by rw [host_siu]; exact list) ?_ ?_
    · exact noWakeStall_of_none (by rw [host_svp]; exact stall)
    · rw [thenFault]
      exact faulted_rests acts rests
  · have same : faulted acts (gated c.txn (wokenOf s)) = gated c.txn (faulted acts (wokenOf s)) := rfl
    rw [faultFirst, same, ← comes]
    exact onlyActs_host list rfl (noWakeStall_of_none stall) restsBehind

end

/-- Settles O53, clause by clause: which of the held events act, and in which order. -/
theorem wakeEndsInReadyWithItsEvents : Obligations.WakeEndsInReadyWithItsEvents := by
  intro s order waking ready woken kinds lost arrives acts faults
  have actsIff : acts ↔ s.siu.faultAction = .undoAll ∧ s.ckc.frames ≠ [] := Iff.rfl
  refine ⟨?_, ?_, ?_, ?_, ?_, ?_⟩
  · intro list fault current stall
    exact wakeEnd_address order waking list fault current stall
  · intro fault current stall queue
    exact wakeEnd_strobes order waking fault current stall queue
  · intro list fault current stall
    exact wakeEnd_fault order waking actsIff list fault current stall
  · intro fault current stall queue
    exact wakeEnd_strobes_and_fault order waking actsIff fault current stall queue
  · intro b list fault current stall segment ack notHeld
    exact wakeEnd_byte order waking b list fault current stall segment ack notHeld
  · intro c stall current untaken notHeld pending t entry cls shut taken
    refine ⟨fun list fault => ?_, fun passes full journaled dir queue => ?_⟩
    · have ends {u : State} := wakeEnd_taken (u := u) order waking stall current untaken notHeld pending list fault
      refine ⟨fun why fails => ?_, fun passes barred => ?_, fun passes locked dir => ?_,
        fun passes empty open_ unlocked => ?_, fun passes full lets => ?_⟩
      · exact ends (takeTxn_failed why fails) (by simp [refuseTxn])
      · exact ends (takeTxn_barred passes barred) (by simp [refuseTxn])
      · exact ends (takeTxn_steadyLocked passes locked.1 locked.2 dir) (by simp [refuseTxn])
      · exact ends (takeTxn_empty passes empty open_ unlocked) (by simp)
      · refine ends ((takeTxn_service passes full rfl pending lets).trans ?_) ?_
        · rw [passThrough, present_mirrorRequest]
          rfl
        · simp [taken]
    · have gate : exec .gateEntry (taken .gate) = .next (tryGate (gated t (wokenOf s))) := rfl
      refine ⟨fun list fault => ?_, fun list fault => ?_, fun list fault => ?_⟩
      · exact wakeEnd_gate order waking stall current untaken notHeld pending passes full journaled dir list fault
      · have ends := wakeEnd_gate_and_strobes order waking stall current untaken notHeld pending passes full journaled
          dir queue list fault
        by_cases first : (order.find? fun w => w = .host || w = .strobes) = some .strobes
        · rw [if_pos first] at ends ⊢
          exact ends
        · rw [if_neg first] at ends ⊢
          exact ⟨_, gate, ends⟩
      · have ends := wakeEnd_gate_and_fault order waking stall current untaken notHeld pending passes full journaled dir
          actsIff list fault
        by_cases first : (order.find? fun w => w = .host || w = .fault) = some .fault
        · rw [if_pos first] at ends ⊢
          refine ⟨ends, fun fires => ends.trans (congrArg _ (gate_shut (.inr ?_)))⟩
          exact congrArg Ckc.faultRequest (if_pos fires)
        · rw [if_neg first] at ends ⊢
          exact ⟨_, gate, ends⟩

end Sys2Proof.WakeEnd
end

section
/-! PROOF. The capture set (chapter 2): what entering entries, the relabel of a KEEP and a pop make of it
(R27, R30 to R32). -/

namespace Sys2Proof.CaptureSet

set_option Elab.async false

open Sys2Proof.Machine Sys2Proof.Safety Sys2Proof.Laws

variable {s : State} {e x : CaptureEntry} {d : Nat} {set : List CaptureEntry}

/-! ## Entering entries -/

theorem insertEntry_of_mem (h : e ∈ s.cpe.captureSet) : insertEntry e s = s := by simp [insertEntry, h]

theorem insertEntry_of_room (new : e ∉ s.cpe.captureSet) (room : s.cpe.captureSet.length < 1024) :
    insertEntry e s = { s with cpe := { s.cpe with captureSet := s.cpe.captureSet ++ [e] } } := by
  simp [insertEntry, new, room]

theorem insertEntry_of_full (new : e ∉ s.cpe.captureSet) (full : 1024 ≤ s.cpe.captureSet.length) :
    insertEntry e s = count .untracked 1 s := by
  simp [insertEntry, new, Nat.not_lt.mpr full]

/-- New cells enter in order while there is room, and each of the rest is counted (R27, R30). -/
theorem insertEntries_eq (level : Nat) (cells : List Addr) (s : State) (distinct : cells.Nodup)
    (new : ∀ a ∈ cells, (⟨a, level⟩ : CaptureEntry) ∉ s.cpe.captureSet) :
    insertEntries level cells s =
      { s with
        cpe :=
          { s.cpe with
            captureSet :=
              s.cpe.captureSet ++ (cells.take (1024 - s.cpe.captureSet.length)).map fun a => ⟨a, level⟩ }
        acu :=
          { s.acu with
            counters :=
              { s.acu.counters with
                untracked :=
                  satAdd s.acu.counters.untracked (cells.length - (1024 - s.cpe.captureSet.length)) } } } := by
  induction cells generalizing s with
  | nil => simp [insertEntries, satAdd_zero]
  | cons a as ih =>
    obtain ⟨fresh, distinct⟩ := List.nodup_cons.mp distinct
    obtain ⟨newHead, newTail⟩ := List.forall_mem_cons.mp new
    rw [insertEntries]
    by_cases room : s.cpe.captureSet.length < 1024
    · rw [insertEntry_of_room newHead room, ih _ distinct]
      · obtain ⟨k, left⟩ := Nat.exists_eq_add_one.mpr (Nat.sub_pos_of_lt room)
        have leftAfter : 1024 - (s.cpe.captureSet.length + 1) = k := by omega
        simp [left, leftAfter]
      · intro b hb
        have other : b ≠ a := fun same => fresh (same ▸ hb)
        simp [newTail b hb, other]
    · have none : 1024 - s.cpe.captureSet.length = 0 := by omega
      rw [insertEntry_of_full newHead (Nat.not_lt.mp room), ih _ distinct (by simpa using newTail)]
      simp [none, Counters.add, satAdd_one_then]

/-! ## The relabel and the pop -/

/-- What the relabel of level `d` makes of one entry of the set (R31). -/
def relabelled (d : Nat) (set : List CaptureEntry) (e : CaptureEntry) : Option CaptureEntry :=
  if e.level = d then
    if set.contains ⟨e.cell, d - 1⟩ then none else some ⟨e.cell, d - 1⟩
  else some e

theorem relabelSet_eq (d : Nat) (set : List CaptureEntry) : relabelSet d set = set.filterMap (relabelled d set) := rfl

/-- An entry of another level stays, and one of level `d` moves where the cell has none at level d − 1. -/
theorem relabelled_eq_some :
    relabelled d set e = some x ↔
      e.level ≠ d ∧ e = x ∨ e.level = d ∧ ⟨e.cell, d - 1⟩ ∉ set ∧ ⟨e.cell, d - 1⟩ = x := by
  unfold relabelled
  by_cases level : e.level = d
  · by_cases lower : (⟨e.cell, d - 1⟩ : CaptureEntry) ∈ set <;> simp [level, lower]
  · simp [level]

theorem relabelSet_length_le (d : Nat) (set : List CaptureEntry) : (relabelSet d set).length ≤ set.length :=
  List.length_filterMap_le _ _

/-- The relabel makes no two entries alike: an entry moves only where no entry stands (R27, R31). -/
theorem relabelSet_nodup (h : set.Nodup) : (relabelSet d set).Nodup := by
  rw [relabelSet_eq]
  have members : set.Pairwise fun a b => a ∈ set ∧ b ∈ set ∧ a ≠ b := List.Pairwise.and_mem.mp h
  refine members.filterMap _ fun a b ⟨ha, hb, differ⟩ x hx y hy same => differ ?_
  subst same
  obtain ⟨_, rfl⟩ | ⟨levelA, freeA, rfl⟩ := relabelled_eq_some.mp hx
  · obtain ⟨_, rfl⟩ | ⟨_, freeB, rfl⟩ := relabelled_eq_some.mp hy
    · rfl
    · exact absurd ha freeB
  · obtain ⟨_, rfl⟩ | ⟨levelB, _, moved⟩ := relabelled_eq_some.mp hy
    · exact absurd hb freeA
    · obtain ⟨sameCell, -⟩ := CaptureEntry.mk.inj moved
      cases a
      cases b
      simp_all

/-- After the relabel level `d` is empty, level d − 1 holds what either held, and the other levels are as before
(R31). -/
theorem mem_relabelSet (positive : 1 ≤ d) (a : Addr) (l : Nat) :
    (⟨a, l⟩ : CaptureEntry) ∈ relabelSet d set ↔
      l ≠ d ∧ ((⟨a, l⟩ : CaptureEntry) ∈ set ∨ l + 1 = d ∧ (⟨a, d⟩ : CaptureEntry) ∈ set) := by
  rw [relabelSet_eq, List.mem_filterMap]
  constructor
  · rintro ⟨e, he, stands⟩
    obtain ⟨other, rfl⟩ | ⟨rfl, -, moved⟩ := relabelled_eq_some.mp stands
    · exact ⟨other, .inl he⟩
    · obtain ⟨rfl, rfl⟩ := CaptureEntry.mk.inj moved
      exact ⟨by omega, .inr ⟨by omega, he⟩⟩
  · rintro ⟨other, stays | ⟨below, top⟩⟩
    · exact ⟨_, stays, relabelled_eq_some.mpr (.inl ⟨other, rfl⟩)⟩
    · by_cases stands : (⟨a, l⟩ : CaptureEntry) ∈ set
      · exact ⟨_, stands, relabelled_eq_some.mpr (.inl ⟨other, rfl⟩)⟩
      · obtain rfl : d - 1 = l := by omega
        exact ⟨_, top, relabelled_eq_some.mpr (.inr ⟨rfl, stands, rfl⟩)⟩

theorem mem_cutSet (a : Addr) (l : Nat) :
    (⟨a, l⟩ : CaptureEntry) ∈ cutSet d set ↔ l < d ∧ (⟨a, l⟩ : CaptureEntry) ∈ set := by
  simp [cutSet, and_comm]

/-- Settles O18: entering entries is `insertEntries_eq`, the relabel and the pop are read off their members. -/
theorem captureSetFollowsItsRules : Obligations.CaptureSetFollowsItsRules :=
  ⟨fun level cells s distinct new => insertEntries_eq level cells s distinct new,
    fun d set positive distinct => ⟨relabelSet_nodup distinct, relabelSet_length_le d set,
      fun a l => mem_relabelSet positive a l, fun a l => mem_cutSet a l⟩⟩

end Sys2Proof.CaptureSet
end

section
/-! PROOF. No step overfills the command queue, the wake list, the refusal list, its overflow count or the capture
set (R27, R125, R132, R146): what joins one of them tests its room first, and every other change shortens it. -/

namespace Sys2Proof.Bounds

set_option Elab.async false

open Sys2Proof.Machine Sys2Proof.Safety Sys2Proof.Laws Sys2Proof.CaptureSet

variable {s t : State} {bs : List Block}

/-- The bounds that every step keeps: of the queues, of the refusals and of the capture set. -/
def Bounded (s : State) : Prop := QueuesBounded s ∧ RefusalsBounded s ∧ CaptureSetBounded s

/-! ## What can change a bounded list -/

/-- An operation that touches none of the four blocks with a bound keeps the bounds. -/
theorem bounded_of_touches (ht : Touches bs s t) (h : Bounded s)
    (hb : ∀ b ∈ [Block.ckc, .cpe, .hbp, .siu], b ∉ bs := by decide) : Bounded t := by
  have ckc : t.ckc = s.ckc := ht .ckc (hb _ (by decide))
  have cpe : t.cpe = s.cpe := ht .cpe (hb _ (by decide))
  have hbp : t.hbp = s.hbp := ht .hbp (hb _ (by decide))
  have siu : t.siu = s.siu := ht .siu (hb _ (by decide))
  simpa only [Bounded, QueuesBounded, RefusalsBounded, CaptureSetBounded, ckc, cpe, hbp, siu] using h

/-- A controller whose queue is no longer than before keeps the bounds. -/
theorem Bounded.of_queue {x : Ckc} (h : Bounded s) (shorter : x.queue.length ≤ s.ckc.queue.length) :
    Bounded { s with ckc := x } := by
  obtain ⟨⟨queue, wake⟩, rest⟩ := h
  exact ⟨⟨shorter.trans queue, wake⟩, rest⟩

/-- An entry that finds room in the queue joins it (R133). -/
theorem enqueue_bounded (e : QueueEntry) (room : queueHasRoom s = true) (h : Bounded s) : Bounded (enqueue e s) := by
  obtain ⟨⟨_, wake⟩, rest⟩ := h
  have room : s.ckc.queue.length < 4 := of_decide_eq_true room
  exact ⟨⟨by simpa using room, wake⟩, rest⟩

/-- A wake list that is empty or takes an entry below eight keeps the bounds (R146). -/
theorem Bounded.of_wakeList {x : Siu} (h : Bounded s) (bounded : x.wakeList.length ≤ 8) :
    Bounded { s with siu := x } := by
  obtain ⟨⟨queue, _⟩, rest⟩ := h
  exact ⟨⟨queue, bounded⟩, rest⟩

/-- A capture set with entries of the old one only, none repeated, keeps the bounds. -/
theorem Bounded.of_captureSet {x : Cpe} (h : Bounded s) (shorter : x.captureSet.length ≤ s.cpe.captureSet.length)
    (distinct : s.cpe.captureSet.Nodup → x.captureSet.Nodup) : Bounded { s with cpe := x } := by
  obtain ⟨queues, refusals, length, nodup⟩ := h
  exact ⟨queues, refusals, shorter.trans length, distinct nodup⟩

theorem emptyCaptureSet_bounded (h : Bounded s) : Bounded (emptyCaptureSet s) :=
  h.of_captureSet (Nat.zero_le _) fun _ => List.nodup_nil

/-- A refusal joins the list below eight, and past it is counted up to 255 (R125). -/
theorem enterRefusal_bounded (r : Refused) {x : Hbp} (h : x.refusals.length ≤ 8 ∧ x.overflow ≤ 255) :
    (enterRefusal r x).refusals.length ≤ 8 ∧ (enterRefusal r x).overflow ≤ 255 := by
  obtain ⟨length, overflow⟩ := h
  by_cases room : x.refusals.length < 8
  · simp [enterRefusal, room, overflow, Nat.succ_le_of_lt room]
  by_cases counts : x.overflow < 255
  · simp [enterRefusal, room, counts, length, Nat.succ_le_of_lt counts]
  · simp [enterRefusal, room, counts, length, overflow]

theorem refuseTxn_bounded (x : HostTxn) (why : Reason) (h : Bounded s) : Bounded (refuseTxn x why s) := by
  obtain ⟨queues, refusals, captures⟩ := h
  exact ⟨queues, enterRefusal_bounded _ refusals, captures⟩

/-- An entry that is not in the capture set joins it below 1024 (R27, R30). -/
theorem insertEntry_bounded (e : CaptureEntry) (h : Bounded s) : Bounded (insertEntry e s) := by
  by_cases mem : e ∈ s.cpe.captureSet
  · rwa [insertEntry_of_mem mem]
  by_cases room : s.cpe.captureSet.length < 1024
  · rw [insertEntry_of_room mem room]
    obtain ⟨queues, refusals, _, nodup⟩ := h
    exact ⟨queues, refusals, by simpa using room, by simpa using nodup.concat mem⟩
  · rw [insertEntry_of_full mem (Nat.not_lt.mp room)]
    exact h

theorem insertEntries_bounded (l : Nat) (cells : List Addr) (h : Bounded s) : Bounded (insertEntries l cells s) := by
  induction cells generalizing s with
  | nil => exact h
  | cons a as ih => exact ih (insertEntry_bounded _ h)

/-! ## Shared operations -/

theorem raiseIf_bounded (c : Bool) (f : Flag) (h : Bounded s) : Bounded (raiseIf c f s) :=
  bounded_of_touches (raiseIf_touches c f s) h

theorem setStale_bounded (h : Bounded s) : Bounded (setStale s) := bounded_of_touches (setStale_touches s) h

theorem requestHeader_bounded (p : HeaderPurpose) (f : HeaderFields) (h : Bounded s) : Bounded (requestHeader p f s) :=
  bounded_of_touches (requestHeader_touches p f s) h

theorem presentEngine_bounded (r : MemRequest) (h : Bounded s) : Bounded (presentEngine r s) :=
  bounded_of_touches (presentEngine_touches r s) h

theorem respond_bounded (why : Option Reason) (d : List Cell) (h : Bounded s) : Bounded (respond why d s) := by
  unfold respond
  split
  · unfold refuse
    split
    · exact h
    · exact refuseTxn_bounded _ _ h
  · exact h

theorem strobeArrival_bounded (k : QueueKind) (h : Bounded s) : Bounded (strobeArrival k s) := by
  unfold strobeArrival
  split
  · exact enqueue_bounded _ ‹_› h
  · exact h

theorem serviceArrival_bounded (k : QueueKind) (h : Bounded s) : Bounded (serviceArrival k s) := by
  unfold serviceArrival
  split
  · rename_i room
    have answered : Bounded { s with svp := { s.svp with cmdResult := .accepted } } := h
    exact enqueue_bounded _ room answered
  · exact h

theorem discardQueue_bounded (h : Bounded s) : Bounded (discardQueue s) := h.of_queue (Nat.zero_le _)

theorem recordOutcome_bounded (o : LastOutcome) (h : Bounded s) : Bounded (recordOutcome o s) := by
  rw [recordOutcome_eq]
  exact h

/-! ## The host port -/

theorem passThrough_bounded (x : HostTxn) (h : Bounded s) : Bounded (passThrough x s) :=
  bounded_of_touches (present_touches _ _) (s := setDisposition .service s) h

theorem passOrHold_bounded (x : HostTxn) (h : Bounded s) : Bounded (passOrHold x s) := by
  unfold passOrHold
  split
  · exact h
  · exact passThrough_bounded x h

theorem dispose_bounded (c : Current) (h : Bounded s) : Bounded (dispose c s) := by
  unfold dispose
  split
  · exact passOrHold_bounded _ h
  · exact refuseTxn_bounded _ _ h
  · split
    · exact refuseTxn_bounded _ _ h
    · exact passOrHold_bounded _ h
  · split
    · exact passOrHold_bounded _ h
    · exact h
    · exact h
    · exact refuseTxn_bounded _ _ h

theorem disposeEmptyWrite_bounded (c : Current) (h : Bounded s) : Bounded (disposeEmptyWrite c s) := by
  unfold disposeEmptyWrite
  split
  · exact refuseTxn_bounded _ _ h
  · split
    · exact refuseTxn_bounded _ _ h
    · exact h
  · exact h

theorem takeTxn_bounded (x : HostTxn) (h : Bounded s) : Bounded (takeTxn x s) := by
  unfold takeTxn
  split
  · exact refuseTxn_bounded _ _ h
  · dsimp only
    split
    · exact disposeEmptyWrite_bounded _ h
    · exact dispose_bounded _ h

theorem rejudge_bounded (h : Bounded s) : Bounded (rejudge s) := by
  unfold rejudge
  split
  · exact h
  split
  · split
    · exact takeTxn_bounded _ h
    · exact h
  · split
    · exact h
    · exact dispose_bounded _ h
  · split
    · exact h
    · exact dispose_bounded _ h
  · exact h
  · exact h

theorem enterState_bounded (st : CtrlState) (h : Bounded s) : Bounded (enterState st s) := by
  apply rejudge_bounded
  split <;> exact h

theorem completeCommand_bounded (o : LastOutcome) (st : CtrlState) (h : Bounded s) :
    Bounded (completeCommand o st s) :=
  enterState_bounded st (recordOutcome_bounded o h)

theorem startWake_bounded (h : Bounded s) : Bounded (startWake s) := by
  unfold startWake
  split <;> exact h

theorem presentTxn_bounded (x : HostTxn) (h : Bounded s) : Bounded (presentTxn x s) := by
  unfold presentTxn
  split
  · exact h
  · dsimp only
    split
    · exact startWake_bounded h
    · exact rejudge_bounded h

/-! ## The capture and the gate -/

theorem finishCapture_bounded (c : Capture) (why : Option Reason) (h : Bounded s) : Bounded (finishCapture c why s) :=
  respond_bounded why [] (insertEntries_bounded c.level (c.list.take c.appended) h)

theorem beginHostWrite_bounded (c : Capture) (h : Bounded s) : Bounded (beginHostWrite c s) := h

theorem beginAppend_bounded (c : Capture) (h : Bounded s) : Bounded (beginAppend c s) := h

theorem checkCapture_bounded (c : Capture) (h : Bounded s) : Bounded (checkCapture c s) := by
  unfold checkCapture
  dsimp only
  split
  · exact beginHostWrite_bounded c h
  split
  · exact finishCapture_bounded c _ h
  split
  · exact finishCapture_bounded c _ h
  split
  · exact h
  split
  · exact finishCapture_bounded c _ h
  · exact beginHostWrite_bounded _ h

theorem tryGate_bounded (h : Bounded s) : Bounded (tryGate s) := by
  unfold tryGate
  split
  · split
    · unfold enterGate
      dsimp only
      split
      · exact passThrough_bounded _ h
      · exact checkCapture_bounded _ h
    · exact h
  · exact h

theorem preImageReadEnded_bounded (e : Ending) (h : Bounded s) : Bounded (preImageReadEnded e s) := by
  unfold preImageReadEnded
  split
  · exact h
  split
  · exact finishCapture_bounded _ _ h
  · exact beginAppend_bounded _ h

theorem appendEnded_bounded (e : Ending) (h : Bounded s) : Bounded (appendEnded e s) := by
  unfold appendEnded
  split
  · exact h
  split
  · exact finishCapture_bounded _ _ h
  · have risen : Bounded (raiseTop s) := bounded_of_touches (raiseTop_touches s) h
    dsimp only
    split
    · exact beginAppend_bounded _ risen
    · exact beginHostWrite_bounded _ risen

theorem captureWriteEnded_bounded (e : Ending) (h : Bounded s) : Bounded (captureWriteEnded e s) := by
  unfold captureWriteEnded
  split
  · exact h
  · exact finishCapture_bounded _ _ h

theorem passThroughEnded_bounded (e : Ending) (h : Bounded s) : Bounded (passThroughEnded e s) := by
  unfold passThroughEnded
  split
  · exact h
  · apply respond_bounded
    split <;> exact h

/-! ## The wipe and the undo -/

theorem continueWipe_bounded (h : Bounded s) : Bounded (continueWipe s) :=
  bounded_of_touches (continueWipe_touches s) h

theorem beginWipe_bounded (h : Bounded s) : Bounded (beginWipe s) :=
  requestHeader_bounded _ _ (enterState_bounded .wipe h)

theorem resumeWipe_bounded (h : Bounded s) : Bounded (resumeWipe s) :=
  continueWipe_bounded (enterState_bounded .wipe h)

theorem wipeHeaderEnded_bounded (p : HeaderPurpose) (ok : Bool) (h : Bounded s) :
    Bounded (wipeHeaderEnded p ok s) := by
  unfold wipeHeaderEnded
  split
  · exact continueWipe_bounded h
  · exact requestHeader_bounded _ _ h
  · exact enterState_bounded _ h
  · exact requestHeader_bounded _ _ h

/-- A pop takes entries out of the capture set alone (R32, R75). -/
theorem popFrame_bounded (h : Bounded s) : Bounded (popFrame s) := by
  unfold popFrame
  split
  · exact h
  · have cut : Bounded { s with cpe := { s.cpe with captureSet := cutSet (depth s) s.cpe.captureSet } } :=
      h.of_captureSet (List.length_filter_le _ _) fun distinct => distinct.filter _
    exact cut

theorem popEmptyLevels_bounded (n : Nat) (h : Bounded s) : Bounded (popEmptyLevels n s) := by
  induction n generalizing s with
  | zero => exact h
  | succ n ih =>
    unfold popEmptyLevels
    split
    · split
      · exact ih (popFrame_bounded h)
      · exact h
    · exact h

theorem walkHead_bounded (h : Bounded s) : Bounded (walkHead s) := by
  unfold walkHead
  split
  · exact bounded_of_touches (beginRetarget_touches s) h
  · have popped := popEmptyLevels_bounded (depth s) h
    unfold walkOn
    dsimp only
    split
    · exact bounded_of_touches (beginClosing_touches _) popped
    · exact bounded_of_touches (beginSlotRead_touches _) popped

theorem haltReplay_bounded (why : HaltReason) (item : HaltItem) (h : Bounded s) : Bounded (haltReplay why item s) :=
  enterState_bounded .halted h

theorem replaySlotReadEnded_bounded (e : Ending) (h : Bounded s) : Bounded (replaySlotReadEnded e s) := by
  unfold replaySlotReadEnded
  split
  · dsimp only
    split
    · exact bounded_of_touches (beginRestore_touches _ s) h
    · exact haltReplay_bounded _ _ h
  · exact haltReplay_bounded _ _ h

theorem restoreEnded_bounded (e : Ending) (h : Bounded s) : Bounded (restoreEnded e s) := by
  unfold restoreEnded
  split
  · exact h
  split
  · exact walkHead_bounded h
  · exact haltReplay_bounded _ _ h

theorem retargetEnded_bounded (ok : Bool) (h : Bounded s) : Bounded (retargetEnded ok s) := by
  unfold retargetEnded
  split
  · apply walkHead_bounded
    split <;> exact h
  · exact haltReplay_bounded _ _ (setStale_bounded h)

theorem endUndo_bounded (f : Option Frame) (o : CmdOutcome) (h : Bounded s) : Bounded (endUndo f o s) :=
  completeCommand_bounded _ .ready (raiseIf_bounded _ .done h)

theorem closingEnded_bounded (ok : Bool) (h : Bounded s) : Bounded (closingEnded ok s) := by
  have marked : Bounded (if ok then s else setStale s) := by
    split
    · exact h
    · exact setStale_bounded h
  unfold closingEnded
  dsimp only
  generalize (if ok = true then s else setStale s) = u at marked ⊢
  split
  · exact walkHead_bounded (popFrame_bounded marked)
  · exact endUndo_bounded _ _ (popFrame_bounded marked)

theorem undoOpeningEnded_bounded (ok : Bool) (h : Bounded s) : Bounded (undoOpeningEnded ok s) := by
  unfold undoOpeningEnded
  split
  · exact walkHead_bounded h
  split
  · exact haltReplay_bounded _ _ h
  · exact endUndo_bounded _ _ h

theorem abandonEnded_bounded (ok : Bool) (h : Bounded s) : Bounded (abandonEnded ok s) := by
  unfold abandonEnded
  split
  · exact endUndo_bounded _ _ (emptyCaptureSet_bounded h)
  · exact setStale_bounded h

theorem requestOpening_bounded (h : Bounded s) : Bounded (requestOpening s) :=
  bounded_of_touches (requestOpening_touches s) h

theorem resumeReplay_bounded (h : Bounded s) : Bounded (resumeReplay s) := by
  have entered := enterState_bounded .replay h
  unfold resumeReplay
  dsimp only
  split
  · exact requestOpening_bounded entered
  · exact walkHead_bounded entered

theorem skipReplay_bounded (h : Bounded s) : Bounded (skipReplay s) := by
  have entered := enterState_bounded .replay h
  unfold skipReplay
  dsimp only
  split
  · exact bounded_of_touches (beginRetarget_touches _) entered
  · exact walkHead_bounded entered

/-! ## The commands of the controller -/

theorem startUndo_bounded (c : InService) (h : Bounded s) : Bounded (startUndo c s) := by
  have entered : Bounded (enterState .replay { s with ckc := { s.ckc with inService := some c } }) :=
    enterState_bounded .replay h
  exact requestOpening_bounded entered

theorem takeOpen_bounded (e : QueueEntry) (h : Bounded s) : Bounded (takeOpen e s) := by
  have completed : ∀ o, Bounded (completeAtOnce e o s) := fun o => completeCommand_bounded _ _ h
  unfold takeOpen
  split
  · split
    · exact completed _
    · exact requestHeader_bounded _ _ (enterState_bounded .enter h)
  · split
    · exact completed _
    · exact requestHeader_bounded _ _ (enterState_bounded .merge h)
  all_goals
    split
    · exact startUndo_bounded _ h
    · exact completed _

/-- A command taken leaves the queue (R7). -/
theorem takeCommand_bounded (h : Bounded s) : Bounded (takeCommand s) := by
  unfold takeCommand
  split
  · exact h
  split
  · rename_i e rest queue _
    have taken : Bounded { s with ckc := { s.ckc with queue := rest } } := h.of_queue (by simp [queue])
    unfold takeEntry
    split
    · exact completeCommand_bounded _ _ taken
    · exact completeCommand_bounded _ _ taken
    · exact takeOpen_bounded _ taken
  · exact h

theorem actOnFault_bounded (h : Bounded s) : Bounded (actOnFault s) := by
  unfold actOnFault
  split
  · dsimp only
    split
    · exact h
    · exact startUndo_bounded _ h
  · exact h

theorem markEnded_bounded (ok : Bool) (h : Bounded s) : Bounded (markEnded ok s) := by
  unfold markEnded
  split
  · exact h
  · dsimp only
    split <;> exact completeCommand_bounded _ _ h

/-- A KEEP empties the capture set or relabels it (R15, R16, R31). -/
theorem mergeTop_bounded (h : Bounded s) : Bounded (mergeTop s) := by
  unfold mergeTop
  dsimp only
  split
  · exact emptyCaptureSet_bounded h
  · have relabelled : Bounded { s with cpe := { s.cpe with captureSet := relabelSet (depth s) s.cpe.captureSet } } :=
      h.of_captureSet (relabelSet_length_le _ _) relabelSet_nodup
    exact relabelled

theorem keepEnded_bounded (ok : Bool) (h : Bounded s) : Bounded (keepEnded ok s) := by
  unfold keepEnded
  split
  · split
    · exact completeCommand_bounded _ _ (mergeTop_bounded h)
    · exact completeCommand_bounded _ _ h
  · exact h

theorem headerConsequence_bounded (w : HeaderWrite) (ok : Bool) (h : Bounded s) :
    Bounded (headerConsequence w ok s) := by
  unfold headerConsequence
  split
  · exact markEnded_bounded ok h
  · exact keepEnded_bounded ok h
  · exact undoOpeningEnded_bounded ok h
  · exact retargetEnded_bounded ok h
  · exact closingEnded_bounded ok h
  · exact abandonEnded_bounded ok h
  · exact bounded_of_touches (syncEnded_touches w ok s) h
  · exact wipeHeaderEnded_bounded _ ok h
  · exact wipeHeaderEnded_bounded _ ok h

theorem headerHalfEnded_bounded (e : Ending) (h : Bounded s) : Bounded (headerHalfEnded e s) := by
  have issued : ∀ {u}, Bounded u → Bounded (issueWaitingHeader u) := fun hu =>
    bounded_of_touches (issueWaitingHeader_touches _) hu
  unfold headerHalfEnded
  split
  · exact h
  split
  · split
    · exact issued (headerConsequence_bounded _ _ h)
    · exact bounded_of_touches (issueSecondHalf_touches _ s) h
  · exact issued (headerConsequence_bounded _ _ h)

/-! ## Start-up and the resets -/

theorem beginScan_bounded (h : Bounded s) : Bounded (beginScan s) := by
  unfold beginScan
  split
  · exact enterState_bounded .bypass h
  · exact presentEngine_bounded _ h

theorem startReplay_bounded (x : Header) (h : Bounded s) : Bounded (startReplay x s) := by
  have entered := enterState_bounded .recover h
  unfold startReplay
  dsimp only
  split
  · exact walkHead_bounded entered
  · exact requestOpening_bounded entered

theorem endSlotScan_bounded (i : Nat) (last : Option Nat) (x : Header) (h : Bounded s) :
    Bounded (endSlotScan i last x s) := by
  unfold endSlotScan
  dsimp only
  split
  · exact enterState_bounded .await h
  · exact startReplay_bounded x h

theorem examineSlot_bounded (i : Nat) (last : Option Nat) (x : Header) (h : Bounded s) :
    Bounded (examineSlot i last x s) := by
  unfold examineSlot
  split
  · exact presentEngine_bounded _ h
  · exact endSlotScan_bounded i last x h

theorem scanSlotReadEnded_bounded (e : Ending) (h : Bounded s) : Bounded (scanSlotReadEnded e s) := by
  unfold scanSlotReadEnded
  split
  · split
    · dsimp only
      split
      · exact examineSlot_bounded _ _ _ h
      · exact endSlotScan_bounded _ _ _ h
    · exact presentEngine_bounded _ h
  · exact h

theorem followHeader_bounded (x : Header) (h : Bounded s) : Bounded (followHeader x s) := by
  unfold followHeader
  split
  · exact enterState_bounded .ready h
  · split
    · exact beginWipe_bounded h
    · exact examineSlot_bounded _ _ _ h
  · exact examineSlot_bounded _ _ _ h
  · exact resumeWipe_bounded h

theorem followNoHeader_bounded (h : Bounded s) : Bounded (followNoHeader s) := by
  unfold followNoHeader
  split
  · exact beginWipe_bounded h
  · exact enterState_bounded .unformatted h

theorem scanHeaderReadEnded_bounded (e : Ending) (h : Bounded s) : Bounded (scanHeaderReadEnded e s) := by
  unfold scanHeaderReadEnded
  split
  · split
    · dsimp only
      split
      · exact presentEngine_bounded _ h
      · unfold selectHeader
        split
        · exact followHeader_bounded _ h
        · exact followNoHeader_bounded h
    · exact presentEngine_bounded _ h
  · exact h

/-- A reset empties the bounded lists (R93). -/
theorem takeReset_bounded (s : State) : Bounded (takeReset s) :=
  ⟨⟨Nat.zero_le _, Nat.zero_le _⟩, ⟨Nat.zero_le _, Nat.zero_le _⟩, Nat.zero_le _, List.nodup_nil⟩

theorem endReset_bounded (st : Straps) (h : Bounded s) : Bounded (endReset st s) := by
  unfold endReset
  split
  · exact beginScan_bounded h
  · exact h

/-- A restart empties the bounded lists but for the refusals, which it keeps (R94). -/
theorem restartState_bounded (h : Bounded s) : Bounded (restartState s) := by
  obtain ⟨_, refusals, _⟩ := id h
  unfold restartState
  split
  · exact beginScan_bounded ⟨⟨Nat.zero_le _, Nat.zero_le _⟩, refusals, Nat.zero_le _, List.nodup_nil⟩
  · exact h

/-! ## Strobes, FAULT and time -/

theorem listWakeEntry_bounded (e : WakeEntry) (h : Bounded s) : Bounded (listWakeEntry e s) := by
  unfold listWakeEntry
  split
  · rename_i room
    exact h.of_wakeList (by simpa using room)
  · exact h

theorem seeStrobe_bounded (line : StrobeLine) (edge : Edge) (h : Bounded s) : Bounded (seeStrobe line edge s) := by
  have consumed : Bounded (consumeTag line s) := by
    unfold consumeTag
    split <;> exact h
  unfold seeStrobe
  split
  · exact h
  · dsimp only
    split
    · exact startWake_bounded (listWakeEntry_bounded _ consumed)
    · exact strobeArrival_bounded _ consumed

theorem takeFault_bounded (h : Bounded s) : Bounded (takeFault s) := by
  have discarded : Bounded (discardQueue (raise .fault s)) := discardQueue_bounded h
  unfold takeFault
  dsimp only
  split
  · exact h
  split
  · exact h
  · exact discarded
  · exact bounded_of_touches (retargetUndo_touches _) discarded

theorem seeFault_bounded (edge : Edge) (h : Bounded s) : Bounded (seeFault edge s) := by
  unfold seeFault
  split
  · exact h
  split
  · exact startWake_bounded h
  · exact takeFault_bounded h

theorem arriveAll_bounded (es : List WakeEntry) (h : Bounded s) : Bounded (arriveAll es s) := by
  induction es generalizing s with
  | nil => exact h
  | cons e es ih => exact ih (strobeArrival_bounded _ h)

theorem arriveWakeList_bounded (h : Bounded s) : Bounded (arriveWakeList s) :=
  arriveAll_bounded _ (h.of_wakeList (Nat.zero_le _))

theorem timerArrival_bounded (i : Nat) (id : Word16) (h : Bounded s) : Bounded (timerArrival i id s) := by
  unfold timerArrival
  split
  · rename_i room
    have emptied : Bounded { s with atu := { s.atu with owed := s.atu.owed.setIfInBounds i none } } := h
    exact enqueue_bounded _ room emptied
  · exact h

theorem owedArrival_bounded (fresh : List Nat) (i : Nat) (h : Bounded s) : Bounded (owedArrival fresh i s) := by
  unfold owedArrival
  split
  · exact h
  split
  · exact timerArrival_bounded _ _ h
  split
  · exact h
  split <;> exact h

theorem owedArrivals_bounded (fresh is : List Nat) (h : Bounded s) : Bounded (owedArrivals fresh is s) := by
  induction is generalizing s with
  | nil => exact h
  | cons i is ih => exact ih (owedArrival_bounded fresh i h)

theorem takeTick_bounded (h : Bounded s) : Bounded (takeTick s) := by
  unfold takeTick
  split
  · unfold tickEffect
    split
    · exact h
    · exact owedArrivals_bounded _ _ (raiseIf_bounded _ .expire (raiseIf_bounded _ .warn h))
  · exact h

theorem timebasePeriod_bounded (h : Bounded s) : Bounded (timebasePeriod s) := by
  unfold timebasePeriod
  split
  · exact h
  split
  · exact h
  split
  · exact h
  · exact takeTick_bounded h

/-! ## The Service Port -/

theorem clearCountsEffect_bounded (h : Bounded s) : Bounded (clearCountsEffect s) := by
  obtain ⟨queues, ⟨length, _⟩, captures⟩ := h
  exact ⟨queues, ⟨length, Nat.zero_le _⟩, captures⟩

theorem popRefusalEffect_bounded (h : Bounded s) : Bounded (popRefusalEffect s) := by
  obtain ⟨queues, ⟨length, overflow⟩, captures⟩ := h
  exact ⟨queues, ⟨(List.tail_sublist _).length_le.trans length, overflow⟩, captures⟩

theorem formatJournal_bounded (h : Bounded s) : Bounded (formatJournal s) :=
  beginWipe_bounded (emptyCaptureSet_bounded h)

theorem immediate_bounded (c : Bool) (f : State → State) (hf : ∀ u, Bounded u → Bounded (f u)) (h : Bounded s) :
    Bounded (immediate c f s) := by
  unfold immediate
  split
  · exact hf _ h
  · exact h

theorem issueCommand_bounded (c : CmdCode) (h : Bounded s) : Bounded (issueCommand s c) := by
  cases c with
  | mark | keep | undo | undoAll | undoTo => exact serviceArrival_bounded _ h
  | resume => exact immediate_bounded _ _ (fun _ => resumeReplay_bounded) h
  | skip => exact immediate_bounded _ _ (fun _ => skipReplay_bounded) h
  | abandon => exact immediate_bounded _ _ (fun _ => bounded_of_touches (abandonReplay_touches _)) h
  | sync => exact immediate_bounded _ _ (fun _ => bounded_of_touches (syncHeader_touches _)) h
  | format => exact immediate_bounded _ _ (fun _ => formatJournal_bounded) h
  | quiesce => exact immediate_bounded _ enterDormant (fun _ hu => hu) h
  | restart => exact immediate_bounded _ beginRestart (fun _ hu => hu) h
  | flush => exact immediate_bounded _ _ (fun _ => discardQueue_bounded) h
  | clearCounts => exact immediate_bounded _ _ (fun _ => clearCountsEffect_bounded) h
  | popRefusal => exact immediate_bounded _ _ (fun _ => popRefusalEffect_bounded) h

theorem writeCmd_bounded (b : Byte) (h : Bounded s) : Bounded (writeCmd b s) := by
  unfold writeCmd
  split
  · exact issueCommand_bounded _ h
  · exact h

theorem commitRegion_bounded (h : Bounded s) : Bounded (commitRegion s) := by
  unfold commitRegion
  dsimp only
  split
  · exact h
  split
  · exact h
  split <;> exact h

theorem judged_bounded (c : Bool) (f : State → State) (hf : ∀ u, Bounded u → Bounded (f u)) (h : Bounded s) :
    Bounded (judged c f s) := by
  unfold judged
  split
  · exact hf _ h
  · exact h

/-- Of the registers only CMD reaches a bounded list. -/
theorem takeValue_bounded (r : Reg) (v : Nat) (h : Bounded s) : Bounded (takeValue r v s) := by
  cases r with
  | cmd => exact writeCmd_bounded _ h
  | regcommit => exact judged_bounded _ _ (fun _ => commitRegion_bounded) h
  | slotload => exact judged_bounded _ _ (fun _ => bounded_of_touches (writeSlotload_touches _)) h
  | page | highwater | cmdtag | cmdframe | strobecfg | strobetag | ticksel | timercfg | warnat | expireat | memwatch
  | regidx | regclass | regbase | reglimit | slotidx | frameidx | flags | masks | ctrsel =>
    exact judged_bounded _ _ (fun _ hu => hu) h
  | _ => exact h

theorem writeAndAdvance_bounded (b : Byte) (h : Bounded s) : Bounded (writeAndAdvance b s) := by
  suffices written : Bounded (writeAtIndex b s) from written
  unfold writeAtIndex
  split
  · exact h
  split
  · exact h
  unfold writeRegByte
  split
  · exact h
  split
  · exact h
  · exact takeValue_bounded _ _ h

theorem dataByte_bounded (b : Byte) (h : Bounded s) : Bounded (dataByte b s) := by
  unfold dataByte
  split
  · split
    · exact startWake_bounded (s := setAck true s) h
    · exact writeAndAdvance_bounded b h
  · exact h

theorem dataByteAt_bounded (rs : List Reg) (b : Byte) (h : Bounded s) : Bounded (dataByteAt rs b s) := by
  unfold dataByteAt
  split
  · exact dataByte_bounded b h
  · exact h

theorem unknownCommandByte_bounded (b : Byte) (h : Bounded s) : Bounded (unknownCommandByte b s) := by
  unfold unknownCommandByte
  split
  · exact dataByteAt_bounded _ b h
  · exact h

theorem addressByte_bounded (a : BitVec 7) (d : Dir) (h : Bounded s) : Bounded (addressByte a d s) := by
  unfold addressByte
  split
  · exact h
  split
  · dsimp only
    split
    · refine bounded_of_touches (touches_svp _ _) (startWake_bounded ?_)
      exact h
    · exact h
  · exact h

/-! ## The wake -/

theorem handleWakeEvent_bounded (w : WakeEvent) (h : Bounded s) : Bounded (handleWakeEvent w s) := by
  cases w with
  | host => exact tryGate_bounded (rejudge_bounded h)
  | strobes => exact arriveWakeList_bounded h
  | fault =>
    unfold handleWakeEvent takeWakeFault
    dsimp only
    split
    · exact takeFault_bounded h
    · exact h
  | service =>
    unfold handleWakeEvent releaseWakeStall
    dsimp only
    split
    · exact h
    · exact writeAndAdvance_bounded _ h
    · exact h

theorem handleWakeEvents_bounded (ws : List WakeEvent) (h : Bounded s) : Bounded (handleWakeEvents ws s) := by
  induction ws generalizing s with
  | nil => exact h
  | cons w ws ih => exact ih (handleWakeEvent_bounded w h)

theorem endWake_bounded (order : List WakeEvent) (h : Bounded s) : Bounded (endWake order s) := by
  unfold endWake
  split
  · exact handleWakeEvents_bounded _ h
  · exact h

/-! ## The memory bus and the periods -/

theorem endTransaction_bounded (e : Ending) (h : Bounded s) : Bounded (endTransaction e s) :=
  bounded_of_touches (endTransaction_touches e s) h

theorem endingConsequence_bounded (p : Purpose) (e : Ending) (h : Bounded s) : Bounded (endingConsequence p e s) := by
  cases p with
  | passThrough => exact passThroughEnded_bounded e h
  | preImageRead => exact preImageReadEnded_bounded e h
  | append => exact appendEnded_bounded e h
  | captureWrite => exact captureWriteEnded_bounded e h
  | headerHalf => exact headerHalfEnded_bounded e h
  | scanHeaderRead => exact scanHeaderReadEnded_bounded e h
  | scanSlotRead => exact scanSlotReadEnded_bounded e h
  | replaySlotRead => exact replaySlotReadEnded_bounded e h
  | restore => exact restoreEnded_bounded e h
  | wipeSlots => exact bounded_of_touches (wipeSlotWriteEnded_touches e s) h
  | slotLoad => exact bounded_of_touches (slotLoadEnded_touches e s) h

theorem memoryAnswers_bounded (p : Purpose) (e : Ending) (h : Bounded s) : Bounded (memoryAnswers p e s) := by
  unfold memoryAnswers
  split
  · exact endingConsequence_bounded p e (endTransaction_bounded e h)
  · exact h

theorem watchExpires_bounded (h : Bounded s) : Bounded (watchExpires s) := by
  unfold watchExpires
  split
  · exact endingConsequence_bounded _ _ (endTransaction_bounded _ h)
  · exact h

theorem watchPeriod_bounded (h : Bounded s) : Bounded (watchPeriod s) := by
  unfold watchPeriod
  split
  · exact h
  split
  · exact h
  dsimp only
  split
  · unfold watchReached
    split
    · exact watchExpires_bounded h
    · exact bounded_of_touches (endDrain_touches _) h
    · exact bounded_of_touches (endSettle_touches _) h
    · exact h
  · exact h

theorem wakePeriod_bounded (h : Bounded s) : Bounded (wakePeriod s) := by
  unfold wakePeriod
  split
  · exact h
  split
  · exact h
  · exact endWake_bounded [] h

/-! ## Every command and every step -/

/-- Every command goes on to a state that keeps the bounds. -/
theorem exec_bounded (i : Instr) (h : Bounded s) : ∃ u, exec i s = .next u ∧ Bounded u := by
  cases i with
  | por | rstn => exact ⟨_, rfl, takeReset_bounded s⟩
  | resetEnd straps => exact ⟨_, rfl, endReset_bounded straps h⟩
  | settleEnd => exact ⟨_, rfl, bounded_of_touches (endSettle_touches s) h⟩
  | hostRequest txn => exact ⟨_, rfl, presentTxn_bounded txn h⟩
  | wakeEnd order => exact ⟨_, rfl, endWake_bounded order h⟩
  | gateEntry => exact ⟨_, rfl, tryGate_bounded h⟩
  | preImageReadEnd e | passThroughEnd e | replaySlotReadEnd e | scanHeaderReadEnd e | scanSlotReadEnd e
  | slotLoadEnd e | appendEnd e | captureWriteEnd e | headerHalfWriteEnd e | restoreEnd e | wipeSlotWriteEnd e =>
    exact ⟨_, rfl, memoryAnswers_bounded _ _ h⟩
  | arbiterGrant => exact ⟨_, rfl, bounded_of_touches (grant_touches s) h⟩
  | memoryWatchTimeout => exact ⟨_, rfl, watchExpires_bounded h⟩
  | drainEnd => exact ⟨_, rfl, bounded_of_touches (endDrain_touches s) h⟩
  | lateResponse => exact ⟨_, rfl, bounded_of_touches (lateAnswer_touches s) h⟩
  | strobeEdge line edge => exact ⟨_, rfl, seeStrobe_bounded line edge h⟩
  | faultEvent edge => exact ⟨_, rfl, seeFault_bounded edge h⟩
  | faultRequestActed => exact ⟨_, rfl, actOnFault_bounded h⟩
  | commandTake => exact ⟨_, rfl, takeCommand_bounded h⟩
  | tick => exact ⟨_, rfl, takeTick_bounded h⟩
  | restartEffect => exact ⟨_, rfl, restartState_bounded h⟩
  | unknownCommand code => exact ⟨_, rfl, unknownCommandByte_bounded code h⟩
  | svcAddressMatch addr dir => exact ⟨_, rfl, addressByte_bounded addr dir h⟩
  | svcIndexByte index => exact ⟨_, rfl, bounded_of_touches (indexByte_touches index s) h⟩
  | svcStop => exact ⟨_, rfl, bounded_of_touches (stopCondition_touches s) h⟩
  | registerWrite data => exact ⟨_, rfl, dataByte_bounded data h⟩
  | readSegmentByte ack => exact ⟨_, rfl, bounded_of_touches (readByte_touches ack s) h⟩
  | _ => exact ⟨_, rfl, dataByteAt_bounded _ _ h⟩

theorem refclkPeriod_bounded (h : Bounded s) : Bounded (refclkPeriod s) :=
  watchPeriod_bounded (wakePeriod_bounded (timebasePeriod_bounded h))

/-- Settles O56: a command keeps the bounds by `exec_bounded`, a REFCLK period by `refclkPeriod_bounded`. -/
theorem everyStepKeepsTheBounds : Obligations.EveryStepKeepsTheBounds := by
  intro s t queues refusals captures taken
  have h : Bounded s := ⟨queues, refusals, captures⟩
  unfold step at taken
  split at taken
  · obtain rfl : refclkPeriod s = t := by simpa using taken
    exact refclkPeriod_bounded h
  · rename_i c rest _
    obtain ⟨u, goesOn, bounded⟩ := exec_bounded (s := { s with pending := rest }) c h
    obtain rfl : u = t := by simpa [goesOn] using taken
    exact bounded

end Sys2Proof.Bounds
end

section
/-! PROOF. The steps of a capture (chapter 2): the checks at the gate, the pre-image read, the records, the host write,
and what each end makes of the capture (R26, R28, R30, R33 to R37, R39 to R44). -/

namespace Sys2Proof.CaptureSteps

set_option Elab.async false

open Sys2Proof.Machine Sys2Proof.Safety Sys2Proof.Laws Sys2Proof.Checkpoint Sys2Proof.TimeAndWake

variable {s : State} {k : Capture} {c : Current}

/-! ## The memory's answers -/

theorem exec_preImageReadEnd (e : ReadEnding) (awaits : Awaits .preImageRead s) :
    exec (.preImageReadEnd e) s =
      .next (preImageReadEnded (ReadEnding.ending e) (endTransaction (ReadEnding.ending e) s)) :=
  congrArg _ (memoryAnswers_of_awaits _ _ s awaits)

theorem exec_appendEnd (e : WriteEnding) (awaits : Awaits .append s) :
    exec (.appendEnd e) s =
      .next (appendEnded (WriteEnding.ending e) (endTransaction (WriteEnding.ending e) s)) :=
  congrArg _ (memoryAnswers_of_awaits _ _ s awaits)

theorem exec_captureWriteEnd (e : WriteEnding) (awaits : Awaits .captureWrite s) :
    exec (.captureWriteEnd e) s =
      .next (captureWriteEnded (WriteEnding.ending e) (endTransaction (WriteEnding.ending e) s)) :=
  congrArg _ (memoryAnswers_of_awaits _ _ s awaits)

/-! ## The end of a capture -/

/-- The capture ended: entries for its completed records, the capture discarded and the gate released (R30, R39). -/
def closed (k : Capture) (s : State) : State :=
  { insertEntries k.level (k.list.take k.appended) s with
    cpe := { (insertEntries k.level (k.list.take k.appended) s).cpe with capture := none }
    ckc := { (insertEntries k.level (k.list.take k.appended) s).ckc with gateHeld := false } }

theorem finishCapture_eq (k : Capture) (why : Option Reason) (s : State) :
    finishCapture k why s = respond why [] (closed k s) := rfl

/-- A capture that ends well answers OKAY (R37, R39). -/
theorem finishCapture_okay (k : Capture) (s : State) :
    finishCapture k none s = { closed k s with hbp := { s.hbp with current := none, answer := .okay [] } } := by
  rw [finishCapture_eq, ← insertEntries_hbp k.level (k.list.take k.appended) s]
  rfl

/-- A capture with no completed record leaves no entry (R39, R40). -/
theorem closed_of_no_record (h : k.appended = 0) :
    closed k s =
      { s with cpe := { s.cpe with capture := none }, ckc := { s.ckc with gateHeld := false } } := by
  rw [closed, h]
  rfl

/-- A flag raised before the capture ends stands after it. -/
theorem closed_raise (k : Capture) (f : Flag) (s : State) : closed k (raise f s) = raise f (closed k s) := by
  rw [closed, insertEntries_raise]
  rfl

/-- The end of the host write ends the capture (R37, R42). -/
theorem captureWriteEnded_of_capture (e : Ending) (h : s.cpe.capture = some k) :
    captureWriteEnded e s = finishCapture k (Ending.refusal e) s := by
  rw [captureWriteEnded, h]

/-- A record that fails ends the capture (R41). -/
theorem appendEnded_error (h : s.cpe.capture = some k) :
    appendEnded .error s = finishCapture k (some .memoryError) s := by
  rw [appendEnded, h]
  rfl

/-- A capture that the memory's error ends is refused MEMORY_ERROR with MEMERR raised (R40 to R42, R166). -/
theorem finishCapture_after_error (k : Capture) (s : State) (h : s.hbp.current = some c) :
    finishCapture k (some .memoryError) (endTransaction .error s) =
      refuseTxn c.txn .memoryError (raise .memerr (closed k { s with mbp := answered s.mbp })) :=
  (finishCapture_refused k .memoryError (endTransaction .error s) c h).trans
    (congrArg _ (closed_raise k .memerr { s with mbp := answered s.mbp }))

/-- Settles O17: each of the three ends is `finishCapture`, by `finishCapture_okay` or `finishCapture_after_error`. -/
theorem captureEndsWithEntriesForItsRecords : Obligations.CaptureEndsWithEntriesForItsRecords := by
  intro s k c capture current
  have refused := finishCapture_after_error k s current
  refine ⟨fun awaits => ⟨?_, ?_⟩, fun awaits => ?_⟩
  · rw [exec_captureWriteEnd _ awaits, captureWriteEnded_of_capture _ (by exact capture)]
    exact congrArg _ (finishCapture_okay k { s with mbp := answered s.mbp })
  · rw [exec_captureWriteEnd _ awaits, captureWriteEnded_of_capture _ (by exact capture)]
    exact congrArg _ refused
  · rw [exec_appendEnd _ awaits]
    exact congrArg _ ((appendEnded_error (by exact capture)).trans refused)

/-! ## The pre-image read and the records -/

theorem preImageReadEnded_done (cells : Beats) (h : s.cpe.capture = some k) :
    preImageReadEnded (.done cells) s = beginAppend { k with preImages := preImagesFrom k cells, appended := 0 } s := by
  rw [preImageReadEnded, h]
  rfl

theorem preImageReadEnded_error (h : s.cpe.capture = some k) :
    preImageReadEnded .error s = finishCapture k (some .memoryError) s := by
  rw [preImageReadEnded, h]
  rfl

/-- A completed record raises top, and HIGH where top reaches the threshold (R36, R57). -/
theorem raiseTop_eq (s : State) :
    raiseTop s =
      { s with
        jmg := { s.jmg with top := s.jmg.top + 1 }
        acu :=
          { s.acu with
            flags := if s.jmg.top + 1 = s.jmg.highWater then s.acu.flags ||| 0x1 else s.acu.flags } } := by
  unfold raiseTop raiseIf
  by_cases reached : s.jmg.top + 1 = s.jmg.highWater <;> simp [reached, raise, Flag.bit, Flag.number]

/-- The next record follows a completed one, and the host write follows the last (R36, R37). -/
theorem appendEnded_done (cells : Beats) (h : s.cpe.capture = some k) :
    appendEnded (.done cells) s =
      if k.appended + 1 < k.reserved then
        beginAppend { k with appended := k.appended + 1 } (count .captures 1 (raiseTop s))
      else beginHostWrite { k with appended := k.appended + 1 } (count .captures 1 (raiseTop s)) := by
  rw [appendEnded, h]
  rfl

/-- Settles O16: the read's end by `preImageReadEnded_done` and `preImageReadEnded_error`, a record's by
`appendEnded_done`. -/
theorem recordsAreWrittenBeforeTheHostWrite : Obligations.RecordsAreWrittenBeforeTheHostWrite := by
  refine ⟨fun s k c cells awaits capture current first => ⟨?_, ?_⟩, fun s k awaits capture => ?_⟩
  · rw [exec_preImageReadEnd _ awaits]
    refine congrArg _ ((preImageReadEnded_done (k := k) cells (by exact capture)).trans ?_)
    simp only [beginAppend, first]
    rfl
  · rw [exec_preImageReadEnd _ awaits]
    refine congrArg _ ((preImageReadEnded_error (by exact capture)).trans
      ((finishCapture_after_error k s current).trans ?_))
    rw [closed_of_no_record first]
  · have ended : exec (.appendEnd .done) s = .next (if k.appended + 1 < k.reserved then _ else _) :=
      (exec_appendEnd .done awaits).trans (congrArg _ (appendEnded_done Beats.zero (by exact capture)))
    refine ⟨fun more => ?_, fun last => ?_⟩
    · rw [ended, if_pos more, raiseTop_eq]
      rfl
    · rw [ended, if_neg (Nat.not_lt.mpr last), raiseTop_eq]
      rfl

/-! ## The checks at the gate -/

/-- A write handed to CPE: the gate held, the transaction in CAPTURE and the capture in progress (R26, R122). -/
def handed (k : Capture) (s : State) : State :=
  setCapture k (setDisposition .capture { s with ckc := { s.ckc with gateHeld := true } })

theorem enterGate_at_depth (c : Current) (s : State) (h : s.ckc.frames ≠ []) :
    enterGate c s = checkCapture (newCapture c s) (handed (newCapture c s) s) := by
  rw [enterGate]
  exact if_neg (mt (depth_eq_zero s).mp h)

/-- A capture that a check refuses leaves nothing behind but the refusal: the gate is released and the capture
discarded (R33, R39). -/
theorem finishCapture_handed (k : Capture) (why : Reason) (fresh : k.appended = 0) (current : s.hbp.current = some c)
    (idle : s.cpe.capture = none) (free : s.ckc.gateHeld = false) :
    finishCapture k (some why) (handed k s) = refuseTxn c.txn why s := by
  have held : (handed k s).hbp.current = some { c with disposition := .capture } := by simp [handed, current]
  calc finishCapture k (some why) (handed k s)
      = refuseTxn c.txn why (closed k (handed k s)) :=
        finishCapture_refused k why _ { c with disposition := .capture } held
    _ = refuseTxn c.txn why
          { s with hbp := { s.hbp with current := (handed k s).hbp.current, answer := s.hbp.answer } } := by
        rw [closed_of_no_record fresh]
        congr 1
        simp [handed, setCapture, setDisposition, ← idle, ← free]
    _ = refuseTxn c.txn why s := refuseTxn_of_current _ _ _ _ _

/-- A breach after FULL: every frame broken, both flags, the counter, and the host write without records (R43, R44). -/
theorem beginBreach_after_full (k : Capture) (s : State) :
    beginBreach k (raise .full s) = beginHostWrite { k with breach := true }
      { s with
        ckc := { s.ckc with frames := s.ckc.frames.map fun f => { f with broken := true } }
        acu :=
          { s.acu with
            flags := s.acu.flags ||| 0x6
            counters := { s.acu.counters with breaches := satAdd s.acu.counters.breaches 1 } } } := by
  simp [beginBreach, breakFrames, raise, count, Counters.add, Flag.bit, Flag.number, BitVec.or_assoc]

/-- Settles O15: the outcomes of `checkCapture` one by one, in their order. -/
theorem gateEntryChecksTheCapture : Obligations.GateEntryChecksTheCapture := by
  intro s c lets levels idle n list m k write read begun
  obtain ⟨current, -, -, -, -, -, free, -, -⟩ := id lets
  have captured : newCapture c s = k := by
    simp [k, list, n, newCapture, cellsToCapture, depth]
  have refused (why : Reason) : finishCapture k (some why) (handed k s) = refuseTxn c.txn why s :=
    finishCapture_handed k why rfl current idle free
  have presented (k' : Capture) (r : MemRequest) :
      begun k' r = { handed k' s with mbp := { s.mbp with waitHost := some r } } := by
    simp [begun, handed, setCapture, setDisposition, current]
  show Host.Outcome.next (tryGate s) = _
  rw [tryGate_of_letsIn s c lets, enterGate_at_depth c s levels, captured]
  refine congrArg _ (if_congr Iff.rfl ?_ (if_congr Iff.rfl (refused _) (if_congr Iff.rfl (refused _)
    (if_congr Iff.rfl ?_ ?_))))
  · rw [presented]; rfl
  · rw [presented]; rfl
  · split
    next policy =>
      refine Eq.trans ?_ (if_pos policy).symm
      exact finishCapture_handed (s := raise .full s) k .journalFull rfl current idle free
    next policy =>
      have breaches : ¬ c.policy = .refuse := fun refuses => by cases policy.symm.trans refuses
      rw [if_neg breaches, presented, beginBreach_after_full]
      rfl

end Sys2Proof.CaptureSteps
end

section
/-! PROOF. The bus stays exclusive and every configuration value legal, whatever step is taken (R58, R156, R160, R170,
R191): most operations leave the bus phase and the configuration as they are, and each of the few that write one of
them writes a lawful value. -/

namespace Sys2Proof.BusAndConfiguration

set_option Elab.async false

open Sys2Proof.Machine Sys2Proof.Safety Sys2Proof.Laws

variable {s t : State} {bs : List Block}

/-- What the two invariants speak of: the bus phase with the outstanding transaction, and the configuration with the
straps that bound it. -/
structure Settings where
  phase : BusPhase
  outstanding : Option MemTxn
  straps : Straps
  highWater : Nat
  warnAt : Word16
  expireAt : Word16
  watchLimit : BitVec 8
  regionIndex : Nat

/-- The settings of a state. -/
def settings (s : State) : Settings where
  phase := s.mbp.phase
  outstanding := s.mbp.outstanding
  straps := s.straps
  highWater := s.jmg.highWater
  warnAt := s.atu.warnAt
  expireAt := s.atu.expireAt
  watchLimit := s.mbp.watchLimit
  regionIndex := s.svp.regionIndex

/-- The two invariants together. -/
def Lawful (s : State) : Prop := BusExclusive s ∧ ConfigLegal s

/-- The invariants depend on the settings alone. -/
theorem Lawful.of_settings (h : Lawful s) (same : settings t = settings s) : Lawful t := by
  obtain ⟨phase, outstanding, straps, highWater, warnAt, expireAt, watchLimit, regionIndex⟩ :=
    Settings.mk.injEq .. ▸ same
  simpa only [Lawful, BusExclusive, ConfigLegal, phase, outstanding, straps, highWater, warnAt, expireAt, watchLimit,
    regionIndex] using h

/-- An operation that touches none of the five blocks with a setting keeps the settings. -/
theorem settings_of_touches (ht : Touches bs s t)
    (hb : ∀ b ∈ [Block.straps, .jmg, .atu, .mbp, .svp], b ∉ bs := by decide) : settings t = settings s := by
  have straps : t.straps = s.straps := ht .straps (hb _ (by decide))
  have jmg : t.jmg = s.jmg := ht .jmg (hb _ (by decide))
  have atu : t.atu = s.atu := ht .atu (hb _ (by decide))
  have mbp : t.mbp = s.mbp := ht .mbp (hb _ (by decide))
  have svp : t.svp = s.svp := ht .svp (hb _ (by decide))
  simp only [settings, straps, jmg, atu, mbp, svp]

/-! ## Requests and the host port -/

theorem settings_present (r : MemRequest) (s : State) : settings (present r s) = settings s := by
  unfold present
  split <;> rfl

theorem settings_presentEngine (r : MemRequest) (s : State) : settings (presentEngine r s) = settings s := by
  unfold presentEngine
  split
  · rfl
  · exact settings_present r s

theorem settings_raiseIf (c : Bool) (f : Flag) (s : State) : settings (raiseIf c f s) = settings s :=
  settings_of_touches (raiseIf_touches c f s)

theorem settings_setStale (s : State) : settings (setStale s) = settings s := settings_raiseIf _ .stale _

theorem settings_recordOutcome (o : LastOutcome) (s : State) : settings (recordOutcome o s) = settings s :=
  settings_of_touches (recordOutcome_touches o s)

theorem settings_passThrough (x : HostTxn) (s : State) : settings (passThrough x s) = settings s :=
  settings_present _ (setDisposition .service s)

theorem settings_passOrHold (x : HostTxn) (s : State) : settings (passOrHold x s) = settings s := by
  unfold passOrHold
  split
  · rfl
  · exact settings_passThrough x s

theorem settings_dispose (c : Current) (s : State) : settings (dispose c s) = settings s := by
  unfold dispose
  split
  · exact settings_passOrHold _ s
  · rfl
  · split
    · rfl
    · exact settings_passOrHold _ s
  · split
    · exact settings_passOrHold _ s
    · rfl
    · rfl
    · rfl

theorem settings_disposeEmptyWrite (c : Current) (s : State) : settings (disposeEmptyWrite c s) = settings s :=
  settings_of_touches (disposeEmptyWrite_touches c s)

theorem settings_takeTxn (x : HostTxn) (s : State) : settings (takeTxn x s) = settings s := by
  unfold takeTxn
  split
  · rfl
  · dsimp only
    split
    · exact settings_disposeEmptyWrite _ _
    · exact settings_dispose _ _

theorem settings_rejudge (s : State) : settings (rejudge s) = settings s := by
  unfold rejudge
  split
  · rfl
  split
  · split
    · exact settings_takeTxn _ s
    · rfl
  · split
    · rfl
    · exact settings_dispose _ s
  · split
    · rfl
    · exact settings_dispose _ s
  · rfl
  · rfl

theorem settings_enterState (st : CtrlState) (s : State) : settings (enterState st s) = settings s := by
  refine (settings_rejudge _).trans ?_
  split <;> rfl

theorem settings_completeCommand (o : LastOutcome) (st : CtrlState) (s : State) :
    settings (completeCommand o st s) = settings s :=
  (settings_enterState st _).trans (settings_recordOutcome o s)

theorem settings_startWake (s : State) : settings (startWake s) = settings s :=
  settings_of_touches (startWake_touches s)

theorem settings_presentTxn (x : HostTxn) (s : State) : settings (presentTxn x s) = settings s := by
  unfold presentTxn
  split
  · rfl
  · dsimp only
    split
    · exact settings_startWake _
    · exact settings_rejudge _

/-! ## The capture and the gate -/

theorem settings_finishCapture (c : Capture) (why : Option Reason) (s : State) :
    settings (finishCapture c why s) = settings s :=
  settings_of_touches (finishCapture_touches c why s)

theorem settings_checkCapture (c : Capture) (s : State) : settings (checkCapture c s) = settings s := by
  unfold checkCapture
  dsimp only
  split
  · rfl
  split
  · exact settings_finishCapture c _ s
  split
  · exact settings_finishCapture c _ s
  split
  · rfl
  split
  · exact settings_finishCapture c _ _
  · rfl

theorem settings_tryGate (s : State) : settings (tryGate s) = settings s := by
  unfold tryGate
  split
  · split
    · unfold enterGate
      dsimp only
      split
      · exact settings_passThrough _ _
      · exact settings_checkCapture _ _
    · rfl
  · rfl

theorem settings_preImageReadEnded (e : Ending) (s : State) : settings (preImageReadEnded e s) = settings s := by
  unfold preImageReadEnded
  split
  · rfl
  split
  · exact settings_finishCapture _ _ s
  · rfl

/-- Top rises past the threshold, which stands (R57). -/
theorem settings_raiseTop (s : State) : settings (raiseTop s) = settings s :=
  settings_raiseIf _ .high _

theorem settings_appendEnded (e : Ending) (s : State) : settings (appendEnded e s) = settings s := by
  unfold appendEnded
  split
  · rfl
  split
  · exact settings_finishCapture _ _ s
  · dsimp only
    split <;> exact settings_raiseTop s

/-! ## Header writes and the wipe -/

theorem settings_requestHeader (p : HeaderPurpose) (f : HeaderFields) (s : State) :
    settings (requestHeader p f s) = settings s := by
  unfold requestHeader
  split
  · rfl
  split <;> rfl

theorem settings_issueWaitingHeader (s : State) : settings (issueWaitingHeader s) = settings s := by
  unfold issueWaitingHeader
  split
  · split <;> rfl
  · rfl

theorem settings_continueWipe (s : State) : settings (continueWipe s) = settings s := by
  unfold continueWipe
  split
  · exact settings_presentEngine _ s
  · exact settings_requestHeader _ _ _

theorem settings_beginWipe (s : State) : settings (beginWipe s) = settings s :=
  (settings_requestHeader _ _ _).trans (settings_enterState .wipe _)

theorem settings_resumeWipe (s : State) : settings (resumeWipe s) = settings s :=
  (settings_continueWipe _).trans (settings_enterState .wipe _)

theorem settings_wipeSlotWriteEnded (e : Ending) (s : State) : settings (wipeSlotWriteEnded e s) = settings s := by
  unfold wipeSlotWriteEnded
  split
  · exact settings_continueWipe _
  · exact settings_presentEngine _ s

theorem settings_wipeHeaderEnded (p : HeaderPurpose) (ok : Bool) (s : State) :
    settings (wipeHeaderEnded p ok s) = settings s := by
  unfold wipeHeaderEnded
  split
  · exact settings_continueWipe s
  · exact settings_requestHeader _ _ s
  · exact settings_enterState _ s
  · exact settings_requestHeader _ _ s

/-! ## The undo -/

theorem settings_requestOpening (s : State) : settings (requestOpening s) = settings s :=
  settings_requestHeader _ _ (setRpeStep .opening s)

theorem settings_beginRetarget (s : State) : settings (beginRetarget s) = settings s :=
  settings_requestHeader _ _ (setRpeStep .retarget s)

theorem settings_walkHead (s : State) : settings (walkHead s) = settings s := by
  unfold walkHead
  split
  · exact settings_beginRetarget s
  · have popped : settings (popEmptyLevels (depth s) s) = settings s :=
      settings_of_touches (popEmptyLevels_touches (depth s) s)
    unfold walkOn
    dsimp only
    split
    · exact (settings_requestHeader _ _ _).trans popped
    · exact (settings_presentEngine _ _).trans popped

theorem settings_haltReplay (why : HaltReason) (item : HaltItem) (s : State) :
    settings (haltReplay why item s) = settings s :=
  settings_enterState .halted _

theorem settings_replaySlotReadEnded (e : Ending) (s : State) : settings (replaySlotReadEnded e s) = settings s := by
  unfold replaySlotReadEnded
  split
  · dsimp only
    split
    · exact settings_presentEngine _ _
    · exact settings_haltReplay _ _ s
  · exact settings_haltReplay _ _ s

theorem settings_restoreEnded (e : Ending) (s : State) : settings (restoreEnded e s) = settings s := by
  unfold restoreEnded
  split
  · rfl
  split
  · exact settings_walkHead _
  · exact settings_haltReplay _ _ s

theorem settings_retargetEnded (ok : Bool) (s : State) : settings (retargetEnded ok s) = settings s := by
  unfold retargetEnded
  split
  · refine (settings_walkHead _).trans ?_
    split <;> rfl
  · exact (settings_haltReplay _ _ _).trans (settings_setStale s)

theorem settings_endUndo (f : Option Frame) (o : CmdOutcome) (s : State) : settings (endUndo f o s) = settings s :=
  (settings_completeCommand _ .ready _).trans (settings_raiseIf _ .done s)

theorem settings_popFrame (s : State) : settings (popFrame s) = settings s :=
  settings_of_touches (popFrame_touches s)

theorem settings_closingEnded (ok : Bool) (s : State) : settings (closingEnded ok s) = settings s := by
  have marked : settings (if ok = true then s else setStale s) = settings s := by
    split
    · rfl
    · exact settings_setStale s
  unfold closingEnded
  dsimp only
  generalize (if ok = true then s else setStale s) = u at marked ⊢
  have popped : settings (popFrame u) = settings s := (settings_popFrame u).trans marked
  split
  · exact (settings_walkHead _).trans popped
  · exact (settings_endUndo _ _ _).trans popped

theorem settings_undoOpeningEnded (ok : Bool) (s : State) : settings (undoOpeningEnded ok s) = settings s := by
  unfold undoOpeningEnded
  split
  · exact settings_walkHead _
  split
  · exact settings_haltReplay _ _ _
  · exact settings_endUndo _ _ _

theorem settings_abandonEnded (ok : Bool) (s : State) : settings (abandonEnded ok s) = settings s := by
  unfold abandonEnded
  split
  · exact settings_endUndo _ _ _
  · exact settings_setStale s

theorem settings_resumeReplay (s : State) : settings (resumeReplay s) = settings s := by
  unfold resumeReplay
  dsimp only
  split
  · exact (settings_requestOpening _).trans (settings_enterState .replay s)
  · exact (settings_walkHead _).trans (settings_enterState .replay s)

theorem settings_skipReplay (s : State) : settings (skipReplay s) = settings s := by
  unfold skipReplay
  dsimp only
  split
  · exact (settings_beginRetarget _).trans (settings_enterState .replay s)
  · exact (settings_walkHead _).trans (settings_enterState .replay s)

/-! ## The commands of the controller -/

theorem settings_startUndo (c : InService) (s : State) : settings (startUndo c s) = settings s :=
  (settings_requestOpening _).trans (settings_enterState .replay _)

theorem settings_takeOpen (e : QueueEntry) (s : State) : settings (takeOpen e s) = settings s := by
  unfold takeOpen
  split
  · split
    · exact settings_completeCommand _ _ s
    · exact (settings_requestHeader _ _ _).trans (settings_enterState .enter _)
  · split
    · exact settings_completeCommand _ _ s
    · exact (settings_requestHeader _ _ _).trans (settings_enterState .merge _)
  all_goals
    split
    · exact settings_startUndo _ s
    · exact settings_completeCommand _ _ s

theorem settings_takeCommand (s : State) : settings (takeCommand s) = settings s := by
  unfold takeCommand
  split
  · rfl
  split
  · unfold takeEntry
    split
    · exact settings_completeCommand _ _ _
    · exact settings_completeCommand _ _ _
    · exact settings_takeOpen _ _
  · rfl

theorem settings_actOnFault (s : State) : settings (actOnFault s) = settings s := by
  unfold actOnFault
  split
  · dsimp only
    split
    · rfl
    · exact settings_startUndo _ _
  · rfl

theorem settings_markEnded (ok : Bool) (s : State) : settings (markEnded ok s) = settings s := by
  unfold markEnded
  split
  · rfl
  · dsimp only
    split
    · exact settings_completeCommand _ _ (pushFrame _ s)
    · exact settings_completeCommand _ _ s

theorem settings_mergeTop (s : State) : settings (mergeTop s) = settings s := by
  unfold mergeTop
  dsimp only
  split <;> rfl

theorem settings_keepEnded (ok : Bool) (s : State) : settings (keepEnded ok s) = settings s := by
  unfold keepEnded
  split
  · split
    · exact (settings_completeCommand _ _ _).trans (settings_mergeTop s)
    · exact settings_completeCommand _ _ s
  · rfl

theorem settings_headerConsequence (w : HeaderWrite) (ok : Bool) (s : State) :
    settings (headerConsequence w ok s) = settings s := by
  unfold headerConsequence
  split
  · exact settings_markEnded ok s
  · exact settings_keepEnded ok s
  · exact settings_undoOpeningEnded ok s
  · exact settings_retargetEnded ok s
  · exact settings_closingEnded ok s
  · exact settings_abandonEnded ok s
  · exact settings_of_touches (syncEnded_touches w ok s)
  · exact settings_wipeHeaderEnded _ ok s
  · exact settings_wipeHeaderEnded _ ok s

theorem settings_headerHalfEnded (e : Ending) (s : State) : settings (headerHalfEnded e s) = settings s := by
  unfold headerHalfEnded
  split
  · rfl
  split
  · split
    · exact (settings_issueWaitingHeader _).trans (settings_headerConsequence _ _ _)
    · rfl
  · exact (settings_issueWaitingHeader _).trans (settings_headerConsequence _ _ _)

/-! ## Start-up -/

theorem settings_beginScan (s : State) : settings (beginScan s) = settings s := by
  unfold beginScan
  split
  · exact settings_enterState .bypass s
  · exact settings_presentEngine _ _

theorem settings_endSlotScan (i : Nat) (last : Option Nat) (h : Header) (s : State) :
    settings (endSlotScan i last h s) = settings s := by
  unfold endSlotScan
  dsimp only
  split
  · exact settings_enterState .await _
  · unfold startReplay
    dsimp only
    split
    · exact (settings_walkHead _).trans (settings_enterState .recover _)
    · exact (settings_requestOpening _).trans (settings_enterState .recover _)

theorem settings_examineSlot (i : Nat) (last : Option Nat) (h : Header) (s : State) :
    settings (examineSlot i last h s) = settings s := by
  unfold examineSlot
  split
  · exact settings_presentEngine _ _
  · exact settings_endSlotScan i last h s

theorem settings_scanSlotReadEnded (e : Ending) (s : State) : settings (scanSlotReadEnded e s) = settings s := by
  unfold scanSlotReadEnded
  split
  · split
    · dsimp only
      split
      · exact settings_examineSlot _ _ _ s
      · exact settings_endSlotScan _ _ _ s
    · exact settings_presentEngine _ s
  · rfl

theorem settings_followHeader (h : Header) (s : State) : settings (followHeader h s) = settings s := by
  unfold followHeader
  split
  · exact settings_enterState .ready _
  · split
    · exact settings_beginWipe _
    · exact settings_examineSlot _ _ _ _
  · exact settings_examineSlot _ _ _ _
  · exact settings_resumeWipe _

theorem settings_followNoHeader (s : State) : settings (followNoHeader s) = settings s := by
  unfold followNoHeader
  split
  · exact settings_beginWipe _
  · exact settings_enterState .unformatted _

theorem settings_scanHeaderReadEnded (e : Ending) (s : State) : settings (scanHeaderReadEnded e s) = settings s := by
  unfold scanHeaderReadEnded
  split
  · split
    · dsimp only
      split
      · exact settings_presentEngine _ _
      · unfold selectHeader
        split
        · exact settings_followHeader _ _
        · exact settings_followNoHeader _
    · exact settings_presentEngine _ s
  · rfl

/-- A restart keeps the threshold, the timer thresholds, the watch limit and the region index (R94). -/
theorem settings_restartState (s : State) : settings (restartState s) = settings s := by
  unfold restartState
  split
  · exact settings_beginScan _
  · rfl

/-- Every placement leaves at least 504 slots, so that the threshold of a reset is legal (R49). -/
theorem capacity_ge (st : Straps) : 504 ≤ capacity st := by
  unfold capacity journalLength
  split <;> decide

/-- A reset gives lawful settings, whatever straps stand (R93). -/
theorem takeReset_lawful (s : State) : Lawful (takeReset s) := by
  have room : 440 ≤ capacity s.straps := le_trans (by decide) (capacity_ge s.straps)
  obtain ⟨-, -, -, -, bus, low, -, rest⟩ := StartUp.resetMeetsTheInvariants
  exact ⟨bus, low, room, rest⟩

/-- The threshold that the straps set is legal with those straps (R58, R92). -/
theorem endReset_lawful (st : Straps) (h : Lawful s) : Lawful (endReset st s) := by
  have room := capacity_ge st
  have low : 1 ≤ highWaterReset st := by unfold highWaterReset; omega
  obtain ⟨-, -, -, -, bus, -, -, -, -, watchLimit, -⟩ := StartUp.resetMeetsTheInvariants
  obtain ⟨-, -, -, warnAt, expireAt, -, regionIndex⟩ := id h
  unfold endReset
  split
  · refine Lawful.of_settings ?_ (settings_beginScan _)
    exact ⟨bus, low, Nat.sub_le _ _, warnAt, expireAt, watchLimit, regionIndex⟩
  · exact h

/-! ## Time -/

theorem settings_timerArrival (i : Nat) (id : Word16) (s : State) : settings (timerArrival i id s) = settings s := by
  unfold timerArrival
  split <;> rfl

theorem settings_owedArrival (fresh : List Nat) (i : Nat) (s : State) :
    settings (owedArrival fresh i s) = settings s := by
  unfold owedArrival
  split
  · rfl
  split
  · exact settings_timerArrival _ _ s
  split
  · rfl
  split <;> rfl

theorem settings_owedArrivals (fresh is : List Nat) (s : State) : settings (owedArrivals fresh is s) = settings s := by
  induction is generalizing s with
  | nil => rfl
  | cons i is ih => exact (ih _).trans (settings_owedArrival fresh i s)

theorem settings_ageFrames (s : State) : settings (ageFrames s) = settings s :=
  settings_of_touches (ageFrames_touches s)

theorem settings_takeTick (s : State) : settings (takeTick s) = settings s := by
  unfold takeTick
  split
  · unfold tickEffect
    split
    · rfl
    · exact (settings_owedArrivals _ _ _).trans (settings_ageFrames _)
  · rfl

theorem settings_timebasePeriod (s : State) : settings (timebasePeriod s) = settings s := by
  unfold timebasePeriod
  split
  · rfl
  split
  · rfl
  split
  · rfl
  · exact settings_takeTick s

/-! ## The commands of CMD -/

theorem settings_serviceArrival (k : QueueKind) (s : State) : settings (serviceArrival k s) = settings s := by
  unfold serviceArrival
  split <;> rfl

theorem settings_immediate (c : Bool) (f : State → State) (hf : ∀ u, settings (f u) = settings u) (s : State) :
    settings (immediate c f s) = settings s := by
  unfold immediate
  split
  · exact hf _
  · rfl

/-- No command of CMD changes a setting. -/
theorem settings_issueCommand (c : CmdCode) (s : State) : settings (issueCommand s c) = settings s := by
  cases c with
  | mark | keep | undo | undoAll | undoTo => exact settings_serviceArrival _ s
  | resume => exact settings_immediate _ _ settings_resumeReplay s
  | skip => exact settings_immediate _ _ settings_skipReplay s
  | abandon => exact settings_immediate _ _ (fun u => settings_requestHeader _ _ (setRpeStep .abandoning u)) s
  | sync => exact settings_immediate _ _ (fun u => settings_requestHeader _ _ u) s
  | format => exact settings_immediate _ formatJournal (fun _ => settings_beginWipe _) s
  | quiesce => exact settings_immediate _ enterDormant (fun _ => rfl) s
  | restart => exact settings_immediate _ beginRestart (fun _ => rfl) s
  | flush => exact settings_immediate _ discardQueue (fun _ => rfl) s
  | clearCounts => exact settings_immediate _ clearCountsEffect (fun _ => rfl) s
  | popRefusal => exact settings_immediate _ popRefusalEffect (fun _ => rfl) s

theorem settings_writeCmd (b : Byte) (s : State) : settings (writeCmd b s) = settings s := by
  unfold writeCmd
  split
  · exact settings_issueCommand _ (setStat .ok s)
  · rfl

/-! ## Register writes -/

theorem settings_commitRegion (s : State) : settings (commitRegion s) = settings s := by
  unfold commitRegion
  dsimp only
  split
  · rfl
  split
  · rfl
  split <;> rfl

theorem settings_writeSlotload (s : State) : settings (writeSlotload s) = settings s := by
  unfold writeSlotload
  split <;> rfl

/-- A register write keeps the invariants when its effect does in the range of its register. -/
theorem judged_lawful (c : Bool) (f : State → State) (h : Lawful s)
    (hf : c = true → Lawful (f (setStat .ok s))) : Lawful (judged c f s) := by
  unfold judged
  split
  · exact hf ‹_›
  · exact h

/-- A value that fits its register and is not 0 is not 0 there. -/
theorem ofNat_ne_zero {n v : Nat} (positive : 1 ≤ v) (fits : v < 2 ^ n) : BitVec.ofNat n v ≠ 0 := by
  intro zero
  have := congrArg BitVec.toNat zero
  simp [Nat.mod_eq_of_lt fits] at this
  omega

/-- A value out of its register's range is not taken, and one in range that has no more bytes than the register is
lawful (R58, R156, R170, R191). -/
theorem takeValue_lawful (r : Reg) (v : Nat) (h : Lawful s) (fits : v < 256 ^ regLength r) :
    Lawful (takeValue r v s) := by
  obtain ⟨bus, low, high, warnAt, expireAt, watchLimit, regionIndex⟩ := id h
  cases r with
  | highwater =>
    refine judged_lawful _ _ h fun legal => ?_
    obtain ⟨positive, below⟩ : 1 ≤ v ∧ v ≤ capacity s.straps := by simpa using legal
    exact ⟨bus, positive, below, warnAt, expireAt, watchLimit, regionIndex⟩
  | warnat =>
    refine judged_lawful _ _ h fun legal => ?_
    exact ⟨bus, low, high, ofNat_ne_zero (of_decide_eq_true legal) fits, expireAt, watchLimit, regionIndex⟩
  | expireat =>
    refine judged_lawful _ _ h fun legal => ?_
    exact ⟨bus, low, high, warnAt, ofNat_ne_zero (of_decide_eq_true legal) fits, watchLimit, regionIndex⟩
  | memwatch =>
    refine judged_lawful _ _ h fun legal => ?_
    exact ⟨bus, low, high, warnAt, expireAt, ofNat_ne_zero (of_decide_eq_true legal) fits, regionIndex⟩
  | regidx =>
    refine judged_lawful _ _ h fun legal => ?_
    exact ⟨bus, low, high, warnAt, expireAt, watchLimit, of_decide_eq_true legal⟩
  | cmd => exact h.of_settings (settings_writeCmd _ s)
  | regcommit => exact judged_lawful _ _ h fun _ => h.of_settings (settings_commitRegion _)
  | slotload => exact judged_lawful _ _ h fun _ => h.of_settings (settings_writeSlotload _)
  | page | cmdtag | cmdframe | strobecfg | strobetag | ticksel | timercfg | regclass | regbase | reglimit | slotidx
  | frameidx | flags | masks | ctrsel => exact judged_lawful _ _ h fun _ => h
  | _ => exact h

theorem ofLittleEndian_lt (bs : List Byte) : ofLittleEndian bs < 256 ^ bs.length := by
  induction bs with
  | nil => decide
  | cons b bs ih =>
    have := b.isLt
    rw [ofLittleEndian, List.length_cons, pow_succ]
    omega

/-- The value of a write has no more bytes than its register (R187). -/
theorem formedValue_lt (r : Reg) (n : Nat) (b : Byte) (s : State) (h : 1 ≤ n) : formedValue r n b s < 256 ^ n := by
  refine (ofLittleEndian_lt _).trans_eq (congrArg _ ?_)
  simp
  omega

/-- A row of the register map has the length of its register. -/
theorem rowAt_bytes {p i : Nat} {row : RegRow} (h : rowAt p i = some row) :
    row.bytes = regLength row.reg ∧ 1 ≤ row.bytes := by
  have all : ∀ row ∈ registerMap, row.bytes = regLength row.reg ∧ 1 ≤ row.bytes := by decide
  exact all row (List.mem_of_find?_eq_some h)

theorem writeAndAdvance_lawful (b : Byte) (h : Lawful s) : Lawful (writeAndAdvance b s) := by
  suffices written : Lawful (writeAtIndex b s) from written
  unfold writeAtIndex
  split
  · exact h
  rename_i i index
  split
  · exact h
  rename_i row here
  obtain ⟨length, positive⟩ : row.bytes = regLength row.reg ∧ 1 ≤ row.bytes := by
    rw [currentRow, index] at here
    exact rowAt_bytes here
  unfold writeRegByte
  split
  · exact h
  split
  · exact h
  · refine takeValue_lawful _ _ h ?_
    rw [← length]
    exact formedValue_lt _ _ b s positive

/-! ## The Service Port -/

theorem dataByte_lawful (b : Byte) (h : Lawful s) : Lawful (dataByte b s) := by
  unfold dataByte
  split
  · split
    · exact h.of_settings (settings_startWake (setAck true s))
    · exact writeAndAdvance_lawful b h
  · exact h

theorem dataByteAt_lawful (rs : List Reg) (b : Byte) (h : Lawful s) : Lawful (dataByteAt rs b s) := by
  unfold dataByteAt
  split
  · exact dataByte_lawful b h
  · exact h

theorem unknownCommandByte_lawful (b : Byte) (h : Lawful s) : Lawful (unknownCommandByte b s) := by
  unfold unknownCommandByte
  split
  · exact dataByteAt_lawful _ b h
  · exact h

theorem settings_addressByte (a : BitVec 7) (d : Dir) (s : State) : settings (addressByte a d s) = settings s := by
  unfold addressByte
  split
  · rfl
  split
  · dsimp only
    split
    · exact settings_startWake _
    · rfl
  · rfl

theorem settings_indexByte (b : Byte) (s : State) : settings (indexByte b s) = settings s := by
  unfold indexByte
  split <;> rfl

theorem settings_stopCondition (s : State) : settings (stopCondition s) = settings s := by
  unfold stopCondition
  split <;> rfl

theorem settings_sendByte (ack : Bool) (s : State) : settings (sendByte ack s) = settings s := by
  suffices shown : settings (snapshotAtIndex s) = settings s from shown
  unfold snapshotAtIndex
  split
  · rfl
  split <;> rfl

theorem settings_readByte (ack : Bool) (s : State) : settings (readByte ack s) = settings s := by
  unfold readByte
  split
  · split
    · rfl
    · exact settings_sendByte ack s
  · rfl

theorem settings_slotLoadEnded (e : Ending) (s : State) : settings (slotLoadEnded e s) = settings s := by
  unfold slotLoadEnded
  split
  · rfl
  · unfold releaseLoadStall
    dsimp only
    split
    · exact settings_sendByte _ _
    · rfl
    · rfl

/-! ## The wake -/

theorem handleWakeEvent_lawful (w : WakeEvent) (h : Lawful s) : Lawful (handleWakeEvent w s) := by
  cases w with
  | host => exact h.of_settings ((settings_tryGate _).trans (settings_rejudge s))
  | strobes => exact h.of_settings (settings_of_touches (arriveWakeList_touches s))
  | fault => exact h.of_settings (settings_of_touches (takeWakeFault_touches s))
  | service =>
    unfold handleWakeEvent releaseWakeStall
    dsimp only
    split
    · exact h
    · exact writeAndAdvance_lawful _ h
    · exact h

theorem handleWakeEvents_lawful (ws : List WakeEvent) (h : Lawful s) : Lawful (handleWakeEvents ws s) := by
  induction ws generalizing s with
  | nil => exact h
  | cons w ws ih => exact ih (handleWakeEvent_lawful w h)

theorem endWake_lawful (order : List WakeEvent) (h : Lawful s) : Lawful (endWake order s) := by
  unfold endWake
  split
  · exact handleWakeEvents_lawful _ h
  · exact h

theorem wakePeriod_lawful (h : Lawful s) : Lawful (wakePeriod s) := by
  unfold wakePeriod
  split
  · exact h
  split
  · exact h
  · exact endWake_lawful [] h

/-! ## The memory bus -/

/-- A bus out of BUSY with nothing outstanding is exclusive, and the configuration stands. -/
theorem Lawful.of_quiet {m : Mbp} (h : Lawful s) (phase : m.phase ≠ .busy) (idle : m.outstanding = none)
    (limit : m.watchLimit = s.mbp.watchLimit) : Lawful { s with mbp := m } := by
  obtain ⟨-, low, high, warnAt, expireAt, watchLimit, regionIndex⟩ := h
  exact ⟨by simp [BusExclusive, phase, idle], low, high, warnAt, expireAt, limit ▸ watchLimit, regionIndex⟩

/-- Every ending leaves BUSY and nothing outstanding (R165 to R167). -/
theorem endTransaction_lawful (e : Ending) (h : Lawful s) : Lawful (endTransaction e s) := by
  cases e with
  | done cells => exact h.of_quiet BusPhase.noConfusion rfl rfl
  | error => exact h.of_quiet BusPhase.noConfusion rfl rfl
  | timeout => exact h.of_quiet BusPhase.noConfusion rfl rfl

theorem settings_endingConsequence (p : Purpose) (e : Ending) (s : State) :
    settings (endingConsequence p e s) = settings s := by
  cases p with
  | passThrough => exact settings_of_touches (passThroughEnded_touches e s)
  | preImageRead => exact settings_preImageReadEnded e s
  | append => exact settings_appendEnded e s
  | captureWrite => exact settings_of_touches (captureWriteEnded_touches e s)
  | headerHalf => exact settings_headerHalfEnded e s
  | scanHeaderRead => exact settings_scanHeaderReadEnded e s
  | scanSlotRead => exact settings_scanSlotReadEnded e s
  | replaySlotRead => exact settings_replaySlotReadEnded e s
  | restore => exact settings_restoreEnded e s
  | wipeSlots => exact settings_wipeSlotWriteEnded e s
  | slotLoad => exact settings_slotLoadEnded e s

theorem memoryAnswers_lawful (p : Purpose) (e : Ending) (h : Lawful s) : Lawful (memoryAnswers p e s) := by
  unfold memoryAnswers
  split
  · exact (endTransaction_lawful e h).of_settings (settings_endingConsequence p e _)
  · exact h

theorem watchExpires_lawful (h : Lawful s) : Lawful (watchExpires s) := by
  unfold watchExpires
  split
  · exact (endTransaction_lawful .timeout h).of_settings (settings_endingConsequence _ _ _)
  · exact h

/-- A grant makes the bus BUSY with the request it issues (R160, R163). -/
theorem grant_lawful (h : Lawful s) : Lawful (grant s) := by
  unfold grant
  split
  · split
    · rename_i r _
      split
      · obtain ⟨-, low, high, warnAt, expireAt, watchLimit, regionIndex⟩ := h
        refine ⟨by simp [BusExclusive, issue], low, high, warnAt, expireAt, ?_, regionIndex⟩
        cases r <;> exact watchLimit
      · exact h
    · exact h
  · exact h

/-- A bus that is not BUSY may become FREE (R168, R171). -/
theorem freeBus_lawful (h : Lawful s) (phase : s.mbp.phase ≠ .busy) : Lawful (freeBus s) := by
  have idle : s.mbp.outstanding = none := by simpa using mt h.1.mpr phase
  exact h.of_quiet BusPhase.noConfusion idle rfl

theorem endDrain_lawful (h : Lawful s) : Lawful (endDrain s) := by
  unfold endDrain
  split
  · rename_i drains
    exact freeBus_lawful h (by simp [drains])
  · exact h

theorem endSettle_lawful (h : Lawful s) : Lawful (endSettle s) := by
  unfold endSettle
  split
  · rename_i settles
    obtain ⟨phase, -⟩ : s.mbp.phase = .settle ∧ s.resetHeld = false := by simpa using settles
    exact freeBus_lawful h (by simp [phase])
  · exact h

theorem lateAnswer_lawful (h : Lawful s) : Lawful (lateAnswer s) := by
  unfold lateAnswer
  split
  · exact endDrain_lawful h
  · exact h

theorem watchPeriod_lawful (h : Lawful s) : Lawful (watchPeriod s) := by
  unfold watchPeriod
  split
  · exact h
  split
  · exact h
  dsimp only
  split
  · unfold watchReached
    split
    · exact watchExpires_lawful h
    · exact endDrain_lawful h
    · exact endSettle_lawful h
    · exact h
  · exact h

/-! ## Every command and every step -/

/-- Every command goes on to a lawful state. -/
theorem exec_lawful (i : Instr) (h : Lawful s) : ∃ u, exec i s = .next u ∧ Lawful u := by
  cases i with
  | por | rstn => exact ⟨_, rfl, takeReset_lawful s⟩
  | resetEnd straps => exact ⟨_, rfl, endReset_lawful straps h⟩
  | settleEnd => exact ⟨_, rfl, endSettle_lawful h⟩
  | hostRequest txn => exact ⟨_, rfl, h.of_settings (settings_presentTxn txn s)⟩
  | wakeEnd order => exact ⟨_, rfl, endWake_lawful order h⟩
  | gateEntry => exact ⟨_, rfl, h.of_settings (settings_tryGate s)⟩
  | preImageReadEnd e | passThroughEnd e | replaySlotReadEnd e | scanHeaderReadEnd e | scanSlotReadEnd e
  | slotLoadEnd e | appendEnd e | captureWriteEnd e | headerHalfWriteEnd e | restoreEnd e | wipeSlotWriteEnd e =>
    exact ⟨_, rfl, memoryAnswers_lawful _ _ h⟩
  | arbiterGrant => exact ⟨_, rfl, grant_lawful h⟩
  | memoryWatchTimeout => exact ⟨_, rfl, watchExpires_lawful h⟩
  | drainEnd => exact ⟨_, rfl, endDrain_lawful h⟩
  | lateResponse => exact ⟨_, rfl, lateAnswer_lawful h⟩
  | strobeEdge line edge => exact ⟨_, rfl, h.of_settings (settings_of_touches (seeStrobe_touches line edge s))⟩
  | faultEvent edge => exact ⟨_, rfl, h.of_settings (settings_of_touches (seeFault_touches edge s))⟩
  | faultRequestActed => exact ⟨_, rfl, h.of_settings (settings_actOnFault s)⟩
  | commandTake => exact ⟨_, rfl, h.of_settings (settings_takeCommand s)⟩
  | tick => exact ⟨_, rfl, h.of_settings (settings_takeTick s)⟩
  | restartEffect => exact ⟨_, rfl, h.of_settings (settings_restartState s)⟩
  | unknownCommand code => exact ⟨_, rfl, unknownCommandByte_lawful code h⟩
  | svcAddressMatch addr dir => exact ⟨_, rfl, h.of_settings (settings_addressByte addr dir s)⟩
  | svcIndexByte index => exact ⟨_, rfl, h.of_settings (settings_indexByte index s)⟩
  | svcStop => exact ⟨_, rfl, h.of_settings (settings_stopCondition s)⟩
  | registerWrite data => exact ⟨_, rfl, dataByte_lawful data h⟩
  | readSegmentByte ack => exact ⟨_, rfl, h.of_settings (settings_readByte ack s)⟩
  | _ => exact ⟨_, rfl, dataByteAt_lawful _ _ h⟩

theorem refclkPeriod_lawful (h : Lawful s) : Lawful (refclkPeriod s) :=
  watchPeriod_lawful (wakePeriod_lawful (h.of_settings (settings_timebasePeriod s)))

/-- Settles O58: a command keeps the invariants by `exec_lawful`, a REFCLK period by `refclkPeriod_lawful`. -/
theorem everyStepKeepsTheBusAndConfiguration : Obligations.EveryStepKeepsTheBusAndConfiguration := by
  intro s t bus config taken
  have h : Lawful s := ⟨bus, config⟩
  unfold step at taken
  split at taken
  · obtain rfl : refclkPeriod s = t := by simpa using taken
    exact refclkPeriod_lawful h
  · rename_i c rest _
    obtain ⟨u, goesOn, lawful⟩ := exec_lawful (s := { s with pending := rest }) c h
    obtain rfl : u = t := by simpa [goesOn] using taken
    exact lawful

end Sys2Proof.BusAndConfiguration
end

section
/-! PROOF. The journal area: the end of a reset and placement, header writes and the copies they take, the wipe, and
SCAN's header reads with the selection that follows them (chapters 3 and 5). -/

namespace Sys2Proof.JournalArea

set_option Elab.async false

open Sys2Proof.Machine Sys2Proof.Safety Sys2Proof.Laws Sys2Proof.Checkpoint Sys2Proof.HeaderEnds Sys2Proof.StartUp
open Sys2Proof.BusAndConfiguration (capacity_ge)

variable {s t u : State}

/-! ## What judging a transaction again can do -/

/-- From `s` to `t` the bus changes in no more than the host's place, and no flag is cleared. -/
def HostActs (s t : State) : Prop :=
  (∃ w, t.mbp = { s.mbp with waitHost := w }) ∧ ∀ f, flagSet f s = true → flagSet f t = true

theorem HostActs.refl (s : State) : HostActs s s := ⟨⟨s.mbp.waitHost, rfl⟩, fun _ h => h⟩

theorem flagSet_raise (f g : Flag) (s : State) (h : flagSet f s = true) : flagSet f (raise g s) = true := by
  unfold flagSet at h
  simp [flagSet, h]

theorem refuseTxn_acts (x : HostTxn) (why : Reason) (s : State) : HostActs s (refuseTxn x why s) :=
  ⟨⟨s.mbp.waitHost, rfl⟩, fun f h => flagSet_raise f .refused s h⟩

theorem passOrHold_acts (x : HostTxn) (s : State) : HostActs s (passOrHold x s) := by
  unfold passOrHold
  split
  · exact HostActs.refl s
  · rw [passThrough, present_mirrorRequest]
    exact ⟨⟨_, rfl⟩, fun _ h => h⟩

theorem dispose_acts (c : Current) (s : State) : HostActs s (dispose c s) := by
  unfold dispose
  split
  · exact passOrHold_acts _ s
  · exact refuseTxn_acts _ _ s
  · split
    · exact refuseTxn_acts _ _ s
    · exact passOrHold_acts _ s
  · split
    · exact passOrHold_acts _ s
    · exact HostActs.refl s
    · exact HostActs.refl s
    · exact refuseTxn_acts _ _ s

theorem disposeEmptyWrite_acts (c : Current) (s : State) : HostActs s (disposeEmptyWrite c s) := by
  unfold disposeEmptyWrite
  split
  · exact refuseTxn_acts _ _ s
  · split
    · exact refuseTxn_acts _ _ s
    · exact HostActs.refl s
  · exact HostActs.refl s

theorem takeTxn_acts (x : HostTxn) (s : State) : HostActs s (takeTxn x s) := by
  unfold takeTxn
  split
  · exact refuseTxn_acts _ _ s
  · dsimp only
    split
    · exact disposeEmptyWrite_acts _ { s with hbp := _ }
    · exact dispose_acts _ { s with hbp := _ }

theorem rejudge_acts (s : State) : HostActs s (rejudge s) := by
  unfold rejudge
  split
  · exact HostActs.refl s
  split
  · split
    · exact takeTxn_acts _ s
    · exact HostActs.refl s
  · split
    · exact HostActs.refl s
    · exact dispose_acts _ s
  · split
    · exact HostActs.refl s
    · exact dispose_acts _ s
  · exact HostActs.refl s
  · exact HostActs.refl s

/-! ## The end of a reset -/

theorem policy_eq_bypass (st : Straps) : policy st = .bypass ↔ st.rp = 3 := by
  unfold policy
  generalize st.rp = rp
  revert rp
  decide

/-- The machine when a reset ends, before SCAN or BYPASS (R92, R171). -/
def sampled (st : Straps) (s : State) : State :=
  { s with
    straps := st
    resetHeld := false
    jmg := { s.jmg with highWater := highWaterReset st }
    mbp := Mbp.reset }

theorem resetEnd_eq (st : Straps) (s : State) (h : s.resetHeld = true) :
    exec (.resetEnd st) s = .next (beginScan (sampled st s)) := congrArg _ (if_pos h)

/-- The machine that enters BYPASS at the end of a reset, before the host's request is judged (R104, R105). -/
def bypassed (st : Straps) (s : State) : State :=
  { sampled st s with
    ckc := { s.ckc with state := .bypass, startUp := false, frames := s.ckc.frames.map Frame.rested }
    acu := { s.acu with flags := s.acu.flags ||| 0x1000 } }

theorem resetEnd_bypass (st : Straps) (s : State) (held : s.resetHeld = true) (startUp : s.ckc.startUp = true)
    (bypass : st.rp = 3) : exec (.resetEnd st) s = .next (rejudge (bypassed st s)) := by
  rw [resetEnd_eq st s held, beginScan_bypass _ (by exact (policy_eq_bypass st).mpr bypass) (by exact startUp)]
  rfl

theorem bypassed_touches (st : Straps) (s : State) :
    Touches [.straps, .resetHeld, .ckc, .jmg, .mbp, .acu] s (bypassed st s) := by
  intro b h; cases b <;> first | rfl | exact absurd (by decide) h

/-- Settles O5: SCAN begins by `beginScan_reads`, BYPASS is entered by `resetEnd_bypass`, and placement depends on PL
alone. -/
theorem resetEndBeginsStartUp : Obligations.ResetEndBeginsStartUp := by
  refine ⟨fun st s held pending startUp => ⟨fun reads => ?_, fun bypass => ?_⟩, fun s => ?_⟩
  · rw [resetEnd_eq st s held, beginScan_reads _ (by exact mt (policy_eq_bypass st).mp reads) (by exact pending)]
    rfl
  · obtain ⟨⟨w, bus⟩, flags⟩ := rejudge_acts (bypassed st s)
    have raised : flagSet .start (bypassed st s) = true := by simp [flagSet, Flag.number, bypassed]
    exact ⟨_, resetEnd_bypass st s held startUp bypass, Touches_trans (bypassed_touches st s) (rejudge_touches _),
      rejudge_straps _, rejudge_touches _ .resetHeld (by decide), congrArg Ckc.state (rejudge_ckc _),
      congrArg Ckc.startUp (rejudge_ckc _), flags .start raised, rejudge_jmg _, congrArg Mbp.outstanding bus,
      congrArg Mbp.waitEngine bus, congrArg Mbp.phase bus⟩
  · simp only [highWaterReset, capacity, journalBase, arraySize, journalLength]
    generalize s.pl = pl
    revert pl
    decide

/-! ## Header writes -/

theorem nextCopy_eq (s : State) : nextCopy s = if s.jmg.current = some .a then .b else .a := by
  unfold nextCopy
  rcases s.jmg.current with _ | _ | _ <;> rfl

theorem copy_offset_eq (c : Copy) : Copy.offset c = if c = .a then 0 else 64 := by cases c <;> rfl

theorem headerHalfRequest_first (w : HeaderWrite) :
    headerHalfRequest s w false =
      ⟨.engine, .headerHalf, BitVec.ofNat 24 (journalBase s.straps + (if w.copy = .a then 0 else 64)), .write, .eight,
        0xF, cellsOfBytes ((headerBytes w.contents).take 32)⟩ := by
  rw [← copy_offset_eq]
  rfl

theorem headerHalfRequest_second (w : HeaderWrite) :
    headerHalfRequest s w true =
      ⟨.engine, .headerHalf, BitVec.ofNat 24 (journalBase s.straps + (if w.copy = .a then 0 else 64) + 32), .write,
        .eight, 0xF, cellsOfBytes (((headerBytes w.contents).drop 32).take 32)⟩ := by
  rw [← copy_offset_eq]
  rfl

/-- With none in flight a header write is issued: the other copy, the next generation, and the first half presented
(R61, R62). -/
theorem requestHeader_issues (p : HeaderPurpose) (f : HeaderFields) (hr : s.ckc.restartPending = false)
    (hw : s.jmg.headerWrite = none) : requestHeader p f s = issueHeader ⟨p, f⟩ s := by
  simp [requestHeader, hr, hw]

/-- With one in flight the request waits (R64). -/
theorem requestHeader_waits (p : HeaderPurpose) (f : HeaderFields) (hr : s.ckc.restartPending = false)
    (hw : s.jmg.headerWrite ≠ none) :
    requestHeader p f s = { s with jmg := { s.jmg with headerWaiting := some ⟨p, f⟩ } } := by
  simp [requestHeader, hr, Option.isSome_iff_ne_none.mpr hw]

/-- While a restart is pending no header write is begun (R94). -/
theorem requestHeader_of_restart (p : HeaderPurpose) (f : HeaderFields) (hr : s.ckc.restartPending = true) :
    requestHeader p f s = s := if_pos hr

/-- A header write that waits and may be issued is issued as one that is asked for then (R64, R70). -/
theorem issueWaitingHeader_of_waiting (r : HeaderRequest) (waits : s.jmg.headerWaiting = some r)
    (free : s.jmg.headerWrite = none) :
    issueWaitingHeader s =
      if s.ckc.restartPending = true then s
      else requestHeader r.purpose r.fields { s with jmg := { s.jmg with headerWaiting := none } } := by
  unfold issueWaitingHeader
  rw [waits]
  dsimp only
  cases pending : s.ckc.restartPending with
  | true => simp
  | false =>
    rw [requestHeader_issues _ _ (by exact pending) (by exact free)]
    simp only [free, Option.isNone_none, Bool.not_false, and_self, if_true, Bool.false_eq_true, if_false]
    rfl

/-- A half of a header write ends in what `headerHalfEnded` makes of it (R61, R165, R166). -/
theorem exec_headerHalfWriteEnd (e : WriteEnding) (awaits : Awaits .headerHalf s) :
    exec (.headerHalfWriteEnd e) s =
      .next (headerHalfEnded (WriteEnding.ending e) (endTransaction (WriteEnding.ending e) s)) :=
  congrArg _ (memoryAnswers_of_awaits .headerHalf (WriteEnding.ending e) s awaits)

/-- The last half of a header write ends it, whether or not a request waits (R61, R62, R64). -/
theorem headerHalf_ends (e : WriteEnding) (w : HeaderWrite) (awaits : Awaits .headerHalf s)
    (write : s.jmg.headerWrite = some w) (last : e = .done → w.second = true) :
    exec (.headerHalfWriteEnd e) s = .next
      (issueWaitingHeader (headerConsequence w (decide (e = .done)) (headerEnded w e s))) := by
  rw [exec_headerHalfWriteEnd e awaits]
  cases e with
  | done =>
    simp [headerHalfEnded, WriteEnding.ending, endTransaction_done, write, Ending.isDone, last rfl, headerEnded,
      headerCompleted, headerDone, copyMarks_put_eq]
  | error =>
    simp [headerHalfEnded, WriteEnding.ending, endTransaction_error, write, Ending.isDone, headerEnded, raise,
      headerFailed, headerLost, copyMarks_put_eq]

/-- A completed SYNC write that carried target 0 clears retarget pending, and a failed one changes nothing (R66,
R84). -/
theorem syncEnded_done (w : HeaderWrite) (s : State) :
    syncEnded w true s =
      { s with
        rpe :=
          { s.rpe with
            retargetPending :=
              if w.contents.fields.state = .replaying ∧ w.contents.fields.target = 0 then false
              else s.rpe.retargetPending } } := by
  unfold syncEnded
  by_cases carries : w.contents.fields.state = .replaying ∧ w.contents.fields.target = 0
  · simp [carries]
  · simp [carries, ← Bool.decide_and]

theorem syncEnded_failed (w : HeaderWrite) (s : State) : syncEnded w false s = s := by simp [syncEnded]

/-- Settles O19: a request is issued or waits by `requestHeader_issues` and `requestHeader_waits`, one that waited is
issued by `issueWaitingHeader_of_waiting`, and the second half follows the first. -/
theorem headerWriteAlternatesCopies : Obligations.HeaderWriteAlternatesCopies := by
  refine ⟨fun n => rfl, ?_, ?_, ?_⟩
  · intro s p f pending copy h addr
    refine ⟨fun free => ?_, fun busy => requestHeader_waits p f pending busy⟩
    rw [requestHeader_issues p f pending free, issueHeader, nextCopy_eq]
    dsimp only
    rw [headerHalfRequest_first]
    rfl
  · intro s w r awaits write sync waits written failed issued
    refine ⟨fun second => ?_, ?_⟩
    · rw [headerHalf_ends .done w awaits write fun _ => second, headerConsequence_sync _ _ _ sync,
        decide_eq_true rfl, syncEnded_done, issueWaitingHeader_of_waiting r (by exact waits) rfl]
      rfl
    · rw [headerHalf_ends .error w awaits write (by simp), headerConsequence_sync _ _ _ sync,
        decide_eq_false (by simp), syncEnded_failed, issueWaitingHeader_of_waiting r (by exact waits) rfl]
      rfl
  · intro s w awaits write first
    rw [exec_headerHalfWriteEnd .done awaits]
    simp [headerHalfEnded, WriteEnding.ending, endTransaction_done, write, Ending.isDone, first, issueSecondHalf,
      present, headerHalfRequest_second]

/-! ## The wipe -/

/-- With no restart pending the zeroing write of the slot pair at the cursor is presented (R68). -/
theorem presentEngine_wipe (h : s.ckc.restartPending = false) :
    presentEngine (wipeRequest s) s =
      { s with
        mbp :=
          { s.mbp with
            waitEngine :=
              some ⟨.engine, .wipeSlots, slotAddr s.straps s.jmg.wipeCursor, .write, .eight, 0xF,
                List.replicate 8 ⟨0, 0, 0, 0⟩⟩ } } := by
  simp only [presentEngine, h, Bool.false_eq_true, if_false]
  rfl

/-- While a restart is pending nothing of the engine's is presented (R94). -/
theorem presentEngine_of_restart (r : MemRequest) (h : s.ckc.restartPending = true) : presentEngine r s = s := if_pos h

theorem continueWipe_slots (room : s.jmg.wipeCursor < capacity s.straps) :
    continueWipe s = presentEngine (wipeRequest s) s := if_pos room

theorem continueWipe_closes (past : capacity s.straps ≤ s.jmg.wipeCursor) :
    continueWipe s = requestHeader .wipeClosing cleanHeader { s with jmg := { s.jmg with nextSerial := 0 } } :=
  if_neg (Nat.not_lt.mpr past)

/-- A zeroing write that completes moves the cursor to the next pair (R68). -/
theorem wipeSlotWriteEnd_done (h : Awaits .wipeSlots s) :
    exec (.wipeSlotWriteEnd .done) s = .next
      (continueWipe { s with mbp := answered s.mbp, jmg := { s.jmg with wipeCursor := s.jmg.wipeCursor + 2 } }) :=
  congrArg _ (memoryAnswers_of_awaits .wipeSlots _ s h)

/-- A zeroing write that fails is presented again (R69). -/
theorem wipeSlotWriteEnd_error (h : Awaits .wipeSlots s) :
    exec (.wipeSlotWriteEnd .error) s = .next
      (presentEngine (wipeRequest s) (raise .memerr { s with mbp := answered s.mbp })) :=
  congrArg _ (memoryAnswers_of_awaits .wipeSlots _ s h)

theorem headerConsequence_wipe (w : HeaderWrite) (ok : Bool) (s : State)
    (h : w.purpose = .wipeOpening ∨ w.purpose = .wipeClosing) :
    headerConsequence w ok s = wipeHeaderEnded w.purpose ok s := by
  rcases h with h | h <;> rw [headerConsequence, h]

/-- Settles O32: the zeroing writes by `continueWipe_slots` and `continueWipe_closes`, the headers by
`wipeHeaderEnded`. -/
theorem wipeZeroesEverySlotPair : Obligations.WipeZeroesEverySlotPair := by
  constructor
  · intro s pending awaits done
    refine ⟨fun room => ?_, fun past => ?_, ?_⟩
    · rw [wipeSlotWriteEnd_done awaits, continueWipe_slots (by exact room),
        presentEngine_of_restart _ (by exact pending)]
    · rw [wipeSlotWriteEnd_done awaits, continueWipe_closes (by exact past),
        requestHeader_of_restart _ _ (by exact pending)]
    · rw [wipeSlotWriteEnd_error awaits, presentEngine_of_restart _ (by exact pending)]
      rfl
  intro s pending c zero
  refine ⟨fun awaits room => ?_, fun awaits past => ?_, fun awaits => ?_, fun w half room => ?_,
    fun w half started => ?_, fun w half startUp => ?_, fun w half => ?_, fun w half => ?_⟩
  · rw [wipeSlotWriteEnd_done awaits, continueWipe_slots (by exact room), presentEngine_wipe (by exact pending)]
  · rw [wipeSlotWriteEnd_done awaits, continueWipe_closes (by exact past)]
    rfl
  · rw [wipeSlotWriteEnd_error awaits]
    exact congrArg _ (presentEngine_wipe (s := raise .memerr { s with mbp := answered s.mbp }) pending)
  · obtain ⟨-, -, purpose, -⟩ := id half
    refine headerWrite_ends .done (eitherHalf_of_second half) (second_of_second half) ?_ fun free => free
    rw [headerConsequence_wipe _ _ _ (.inl purpose), purpose]
    exact (continueWipe_slots (s := headerEnded w .done s) room).trans (presentEngine_wipe pending)
  · obtain ⟨-, -, purpose, -⟩ := id half
    refine headerWrite_ends .done (eitherHalf_of_second half) (second_of_second half) ?_
      fun free => rejudge_headerWaiting free
    rw [headerConsequence_wipe _ _ _ (.inr purpose), purpose]
    exact enterState_outside_startUp .ready _ started
  · obtain ⟨-, -, purpose, -⟩ := id half
    refine headerWrite_ends .done (eitherHalf_of_second half) (second_of_second half) ?_
      fun free => rejudge_headerWaiting free
    rw [headerConsequence_wipe _ _ _ (.inr purpose), purpose]
    exact enterReady_ends_startUp _ startUp
  · obtain ⟨-, -, purpose, -⟩ := id half
    refine headerWrite_ends .error half (by simp) ?_ fun free => requestHeader_leaves_none_waiting _ _ _ free rfl
    rw [headerConsequence_wipe _ _ _ (.inl purpose), purpose]
    rfl
  · obtain ⟨-, -, purpose, -⟩ := id half
    refine headerWrite_ends .error half (by simp) ?_ fun free => requestHeader_leaves_none_waiting _ _ _ free rfl
    rw [headerConsequence_wipe _ _ _ (.inr purpose), purpose]
    rfl

/-! ## SCAN's header reads -/

/-- The halves of the two copies stand one after the other, 32 bytes apiece (R50, R95). -/
theorem scanHeaderRequest_eq (k : Nat) (h : k < 4) :
    scanHeaderRequest s k =
      ⟨.engine, .scanHeaderRead, BitVec.ofNat 24 (journalBase s.straps + 32 * k), .read, .eight, 0xF, []⟩ := by
  interval_cases k <;> rfl

/-- With no restart pending the read of a header half is presented (R95). -/
theorem presentEngine_scanHeader (k : Nat) (small : k < 4) (h : u.ckc.restartPending = false) :
    presentEngine (scanHeaderRequest s k) u =
      { u with
        mbp :=
          { u.mbp with
            waitEngine :=
              some ⟨.engine, .scanHeaderRead, BitVec.ofNat 24 (journalBase s.straps + 32 * k), .read, .eight, 0xF,
                []⟩ } } := by
  rw [scanHeaderRequest_eq k small, presentEngine, h]
  rfl

theorem takeBeats_eight (cells : Beats) : takeBeats 8 cells = Vector.toList cells :=
  List.take_of_length_le (by simp)

section
variable {k : Nat} {bytes : List Byte} (cells : Beats) (awaits : Awaits .scanHeaderRead s)
  (scan : s.jmg.scan = .headers k bytes)
include awaits scan

/-- A header half read before the fourth leads to the next (R95). -/
theorem scanHeaderReadEnd_next (h : k < 3) :
    exec (.scanHeaderReadEnd (.done cells)) s = .next
      (presentEngine (scanHeaderRequest s (k + 1))
        { s with
          mbp := answered s.mbp
          jmg := { s.jmg with scan := .headers (k + 1) (bytes ++ bytesOfCells (Vector.toList cells)) } }) := by
  refine congrArg _ ((memoryAnswers_of_awaits .scanHeaderRead (.done cells) s awaits).trans ?_)
  rw [endingConsequence, endTransaction_done, scanHeaderReadEnded]
  dsimp only
  rw [scan, takeBeats_eight]
  exact if_pos (Nat.succ_lt_succ h)

/-- The fourth leads to header selection (R96). -/
theorem scanHeaderReadEnd_selects (h : k = 3) :
    exec (.scanHeaderReadEnd (.done cells)) s = .next
      (selectHeader (bytes ++ bytesOfCells (Vector.toList cells)) { s with mbp := answered s.mbp }) := by
  refine congrArg _ ((memoryAnswers_of_awaits .scanHeaderRead (.done cells) s awaits).trans ?_)
  rw [endingConsequence, endTransaction_done, scanHeaderReadEnded]
  dsimp only
  rw [scan, takeBeats_eight]
  exact if_neg (by omega)

/-- A header half read that fails is presented again (R95). -/
theorem scanHeaderReadEnd_error :
    exec (.scanHeaderReadEnd .error) s = .next
      (presentEngine (scanHeaderRequest s k) (raise .memerr { s with mbp := answered s.mbp })) := by
  refine congrArg _ ((memoryAnswers_of_awaits .scanHeaderRead .error s awaits).trans ?_)
  rw [endingConsequence, endTransaction_error, scanHeaderReadEnded]
  dsimp only [raise_jmg]
  rw [scan]
  rfl

end

/-! ## Header selection -/

/-- A serial that is stored and taken back is itself, or the spent value from the last serial on (R54). -/
theorem takeSerial_storeSerial (n : Nat) :
    takeSerial (storeSerial n) = if n < 0xFFFFFFFFFFFF then n else 2 ^ 48 := by
  unfold storeSerial
  split
  · rename_i below
    exact (if_neg below.ne).trans (if_pos below).symm
  · rename_i past
    exact (if_pos rfl).trans (if_neg past).symm

/-- Generations are compared modulo 2^32 (R63). -/
theorem generationGreater_iff (g2 g1 : BitVec 32) :
    generationGreater g2 g1 = true ↔
      1 ≤ (g2.toNat + (2 ^ 32 - g1.toNat)) % 2 ^ 32 ∧ (g2.toNat + (2 ^ 32 - g1.toNat)) % 2 ^ 32 ≤ 2 ^ 31 - 1 := by
  have distance : (g2 - g1).toNat = (g2.toNat + (2 ^ 32 - g1.toNat)) % 2 ^ 32 := by
    rw [BitVec.toNat_sub, Nat.add_comm]
  simp only [generationGreater, distance, Bool.and_eq_true, decide_eq_true_eq]
  omega

/-- Of two valid copies B is taken when its generation is greater, and A otherwise (R63, R96). -/
theorem selectCopy_both (a b : Header) :
    selectCopy (some a) (some b) =
      if generationGreater b.generation a.generation = true then some (.b, b) else some (.a, a) := rfl

/-- A state whose entry ends a start-up ends it (R105). -/
theorem enterState_ends_startUp (st : CtrlState) (ends : endsStartUp st = true) (h : s.ckc.startUp = true) :
    enterState st s = rejudge
      { s with
        ckc := { s.ckc with state := st, startUp := false, frames := s.ckc.frames.map Frame.rested }
        acu := { s.acu with flags := s.acu.flags ||| 0x1000 } } := by
  simp [enterState, h, ends, endStartUp, raise, Flag.bit, Flag.number]

/-- A state whose entry ends no start-up is entered as it is outside one (R105). -/
theorem enterState_keeps_startUp (st : CtrlState) (goesOn : endsStartUp st = false) (s : State) :
    enterState st s = rejudge { s with ckc := { s.ckc with state := st } } := by
  simp [enterState, goesOn]

/-- A wipe from its opening header (R68, R101). -/
theorem beginWipe_eq (s : State) :
    beginWipe s = requestHeader .wipeOpening wipingHeader
      (rejudge
        { s with
          jmg := { s.jmg with top := 0, wipeCursor := 0 }
          ckc := { s.ckc with state := .wipe } }) := by
  rw [beginWipe, enterState_keeps_startUp .wipe rfl]

/-- A wipe from slot 0 (R68, R102). -/
theorem resumeWipe_eq (h : s.ckc.restartPending = false)
    (wiping : u = rejudge
      { s with
        jmg := { s.jmg with top := 0, wipeCursor := 0 }
        ckc := { s.ckc with state := .wipe } }) :
    resumeWipe s =
      { u with
        mbp :=
          { u.mbp with
            waitEngine :=
              some ⟨.engine, .wipeSlots, slotAddr s.straps 0, .write, .eight, 0xF,
                List.replicate 8 ⟨0, 0, 0, 0⟩⟩ } } := by
  have room : 0 < capacity s.straps := lt_of_lt_of_le (by decide) (capacity_ge s.straps)
  rw [resumeWipe, enterState_keeps_startUp .wipe rfl]
  dsimp only
  rw [← wiping, continueWipe_slots (by simpa [wiping] using room), presentEngine_wipe (by simpa [wiping] using h)]
  simp [wiping]

/-- A header with a stack whose top is below capacity leads to the read of the slot there (R97). -/
theorem examineSlot_reads (i : Nat) (last : Option Nat) (h : Header) (room : i < capacity s.straps)
    (hr : s.ckc.restartPending = false) :
    examineSlot i last h s =
      { s with
        mbp :=
          { s.mbp with waitEngine := some ⟨.engine, .scanSlotRead, slotAddr s.straps i, .read, .four, 0xF, []⟩ }
        jmg := { s.jmg with scan := .slots i last h } } := by
  rw [examineSlot, if_pos room, presentEngine_scanSlot _ _ _ (by exact hr)]

/-- A top at capacity ends the scan at once (R97). -/
theorem examineSlot_ends (i : Nat) (last : Option Nat) (h : Header) (past : capacity s.straps ≤ i) :
    examineSlot i last h s = endSlotScan i last h s := if_neg (Nat.not_lt.mpr past)

/-- An OPEN header but under DISCARD, and a REPLAYING one, have their stack rebuilt and their slots scanned (R96). -/
theorem followHeader_scans (h : Header)
    (path : h.fields.state = .replaying ∨ h.fields.state = .opened ∧ policy s.straps ≠ .discard) :
    followHeader h s = examineSlot h.fields.top none h (rebuildFrames h s) := by
  unfold followHeader
  rcases path with state | ⟨state, keeps⟩
  · rw [state]
  · rw [state]
    exact if_neg keeps

theorem followHeader_discards (h : Header) (state : h.fields.state = .opened) (discards : policy s.straps = .discard) :
    followHeader h s = beginWipe (setSerial (takeSerial h.serial) s) := by
  rw [followHeader, state]
  exact if_pos discards

theorem followHeader_clean (h : Header) (state : h.fields.state = .clean) :
    followHeader h s = enterState .ready (setSerial (takeSerial h.serial) s) := by
  rw [followHeader, state]

theorem followHeader_wiping (h : Header) (state : h.fields.state = .wiping) :
    followHeader h s = resumeWipe (setSerial (takeSerial h.serial) s) := by
  rw [followHeader, state]

theorem selectHeader_some {bs : List Byte} {c : Copy} {h : Header}
    (chosen : selectCopy (scannedHeader s .a (bs.take 64)) (scannedHeader s .b (bs.drop 64)) = some (c, h)) :
    selectHeader bs s =
      followHeader h
        { s with jmg := { s.jmg with current := some c, generation := h.generation, scan := .idle } } := by
  rw [selectHeader, chosen]

theorem selectHeader_none {bs : List Byte}
    (chosen : selectCopy (scannedHeader s .a (bs.take 64)) (scannedHeader s .b (bs.drop 64)) = none) :
    selectHeader bs s =
      followNoHeader { s with jmg := { s.jmg with current := none, generation := 0, scan := .idle } } := by
  rw [selectHeader, chosen]

/-- Settles O33: the reads by `scanHeaderReadEnd_next` and `scanHeaderReadEnd_error`, the path of each header state by
`followHeader`, and the choice of a copy by `generationGreater_iff`. -/
theorem scanReadsAndSelectsTheHeader : Obligations.ScanReadsAndSelectsTheHeader := by
  refine ⟨fun n => ⟨rfl, fun _ => takeSerial_storeSerial n⟩, ?_, fun a b => ?_⟩
  · intro s k bytes cells awaits scan pending half all copyA copyB started
    have selects (h : k = 3) := scanHeaderReadEnd_selects cells awaits scan h
    refine ⟨fun h => ?_, fun h => ?_, fun last startUp c h chosen clean => ?_, fun last startUp chosen keeps => ?_,
      fun last startUp chosen discards => ?_, fun last c h chosen => ?_⟩
    · rw [scanHeaderReadEnd_next cells awaits scan h,
        presentEngine_scanHeader _ (Nat.succ_lt_succ h) (by exact pending)]
    · rw [scanHeaderReadEnd_error awaits scan, presentEngine_scanHeader _ h (by exact pending)]
      rfl
    · rw [selects last, selectHeader_some (by exact chosen), followHeader_clean h clean,
        enterReady_ends_startUp _ (by exact startUp)]
      rfl
    · rw [selects last, selectHeader_none (by exact chosen), followNoHeader, if_neg (by exact keeps),
        enterState_ends_startUp .unformatted rfl (by exact startUp)]
      rfl
    · rw [selects last, selectHeader_none (by exact chosen), followNoHeader, if_pos (by exact discards), beginWipe_eq]
      rfl
    · intro wiping rebuilt
      have follows := (selects last).trans (congrArg _ (selectHeader_some (by exact chosen)))
      refine ⟨fun path room => ?_, fun path past startUp => ?_, fun state discards => ?_, fun state => ?_⟩
      · rw [follows, followHeader_scans h (by exact path), examineSlot_reads _ _ _ (by exact room) (by exact pending)]
        rfl
      · intro full fs undoing recovering
        rw [follows, followHeader_scans h (by exact path), examineSlot_ends _ _ _ (by exact past), endSlotScan]
        dsimp only
        by_cases replays : h.fields.state = .replaying
        · rw [if_neg (by simp [replays]), startReplay_replaying h _ replays, if_pos replays]
          rfl
        · obtain ⟨opened, -⟩ := path.resolve_left replays
          rw [if_neg replays]
          by_cases hold : policy s.straps = .hold
          · rw [if_pos ⟨opened, hold⟩, enterAwait_ends_startUp _ (by exact startUp), if_pos hold]
            rfl
          · rw [if_neg (fun both => hold both.2), startReplay_opening h _ replays, if_neg hold]
            rfl
      · rw [follows, followHeader_discards h state (by exact discards), beginWipe_eq]
        rfl
      · rw [follows, followHeader_wiping h state, resumeWipe_eq (by exact pending) rfl]
        rfl
  · have iff := generationGreater_iff b.generation a.generation
    intro d
    refine ⟨fun low high => ?_, fun out => ?_, rfl, rfl, rfl⟩
    · rw [selectCopy_both, if_pos (iff.mpr ⟨low, high⟩)]
    · rw [selectCopy_both, if_neg (mt iff.mp (by omega))]

end Sys2Proof.JournalArea
end

section
/-! PROOF. The formats of the slot and the header copy (R51, R52, R59, R60, R198, R199): the tests by which bytes are
valid, and that what is written reads back. -/

namespace Sys2Proof.Formats

set_option Elab.async false

open Sys2Proof.Machine Sys2Proof.Safety Sys2Proof.Laws

/-! ## Bytes and numbers -/

@[simp] theorem littleEndian_length (n v : Nat) : (littleEndian n v).length = n := by
  induction n generalizing v with
  | zero => rfl
  | succ n ih => simp [littleEndian, ih]

/-- A number that fits its bytes reads back from them. -/
theorem ofLittleEndian_littleEndian (n v : Nat) (h : v < 256 ^ n) : ofLittleEndian (littleEndian n v) = v := by
  induction n generalizing v with
  | zero =>
    obtain rfl : v = 0 := by simpa using h
    rfl
  | succ n ih =>
    have rest : v / 256 < 256 ^ n := Nat.div_lt_of_lt_mul (by rw [pow_succ] at h; omega)
    rw [littleEndian, ofLittleEndian, ih _ rest, BitVec.toNat_ofNat]
    omega

/-- A word of `8 * n` bits reads back from its `n` bytes. -/
theorem ofLittleEndian_toNat {w : Nat} (n : Nat) (x : BitVec w) (h : 2 ^ w = 256 ^ n) :
    ofLittleEndian (littleEndian n x.toNat) = x.toNat :=
  ofLittleEndian_littleEndian n _ (h ▸ x.isLt)

/-- A field past the first part of the bytes is a field of the rest. -/
theorem fieldAt_append_right (as bs : List Byte) (k n m : Nat) (h : as.length = m) :
    fieldAt (as ++ bs) (m + k) n = fieldAt bs k n := by
  rw [fieldAt, slice, ← h, List.drop_length_add_append]
  rfl

/-- The bytes of cells are the bytes that the cells were made of, four at a time. -/
theorem bytesOfCells_cellsOfBytes (bs : List Byte) (h : bs.length % 4 = 0) : bytesOfCells (cellsOfBytes bs) = bs := by
  induction bs using cellsOfBytes.induct with
  | case1 a b c d rest ih =>
    have fewer : rest.length % 4 = 0 := by simp only [List.length_cons] at h; omega
    rw [cellsOfBytes, bytesOfCells, List.flatMap_cons]
    exact congrArg _ (ih fewer)
  | case2 bs short =>
    rcases bs with _ | ⟨a, _ | ⟨b, _ | ⟨c, _ | ⟨d, rest⟩⟩⟩⟩
    · rfl
    · simp at h
    · simp at h
    · simp at h
    · exact absurd rfl (short a b c d rest)

/-! ## Slots -/

theorem slotValidates_iff (base : Nat) (bs : List Byte) :
    slotValidates base bs = true ↔
      bs.getD 0 0 = 0x5A ∧ fieldAt bs 14 2 = (crc16 (bs.take 14)).toNat ∧ fieldAt bs 1 3 % 4 = 0
        ∧ fieldAt bs 1 3 < base := by
  simp only [slotValidates, Bool.and_eq_true, decide_eq_true_eq, and_assoc]

section
variable (r : Record)

theorem recordBytes_length : (recordBytes r).length = 16 := rfl

theorem recordBytes_body : (recordBytes r).take 14 = recordBody r := rfl

/-- The check field holds the check (R198). -/
theorem recordBytes_check : fieldAt (recordBytes r) 14 2 = (crc16 (recordBody r)).toNat :=
  ofLittleEndian_toNat 2 _ rfl

/-- The cell field holds the cell's address (R198). -/
theorem recordBytes_cell : fieldAt (recordBytes r) 1 3 = r.cell.toNat := ofLittleEndian_toNat 3 _ rfl

/-- The serial field holds a serial of 48 bits (R54, R198). -/
theorem recordBytes_serial (h : r.serial < 2 ^ 48) : fieldAt (recordBytes r) 8 6 = r.serial :=
  ofLittleEndian_littleEndian 6 _ h

theorem recordOfBytes_recordBytes (h : r.serial < 2 ^ 48) : recordOfBytes (recordBytes r) = r := by
  rw [recordOfBytes, recordBytes_cell, recordBytes_serial r h, BitVec.ofNat_toNat, BitVec.setWidth_eq]
  rfl

end

/-- Settles O36: the tests and the fields by `fieldAt_eq_sum`, and each field of a written record by its own lemma. -/
theorem recordReadsBackAsWritten : Obligations.RecordReadsBackAsWritten := by
  refine ⟨fun base bs => ?_, by decide +kernel, fun base r aligned below serial => ⟨recordBytes_length r, ?_, ?_, ?_⟩⟩
  · intro num
    refine ⟨?_, ?_⟩
    · rw [slotValidates_iff, fieldAt_eq_sum, fieldAt_eq_sum]
    · rw [recordOfBytes, fieldAt_eq_sum, fieldAt_eq_sum]
  · rw [slotValidates_iff, recordBytes_check, recordBytes_body, recordBytes_cell]
    exact ⟨rfl, rfl, aligned, below⟩
  · exact recordOfBytes_recordBytes r serial
  · exact bytesOfCells_cellsOfBytes _ (by rw [recordBytes_length])

/-! ## Header copies -/

theorem ofCode_eq_some_iff (n : Nat) (st : HeaderState) :
    HeaderState.ofCode n = some st ↔
      (st, n) ∈ [(HeaderState.clean, 0), (.opened, 1), (.replaying, 2), (.wiping, 3)] := by
  rcases n with _ | _ | _ | _ | n <;> cases st <;> simp [HeaderState.ofCode]

theorem ofCode_code (st : HeaderState) : HeaderState.ofCode (HeaderState.code st) = some st := by cases st <;> rfl

/-- The bytes describe a header when its state is one of the four and every field is at its offset (R60, R199). -/
theorem headerOfBytes_eq_some_iff (bs : List Byte) (h : Header) :
    headerOfBytes bs = some h ↔
      HeaderState.ofCode (bs.getD 6 0).toNat = some h.fields.state ∧ h.generation = BitVec.ofNat 32 (fieldAt bs 2 4)
        ∧ h.fields.depth = (bs.getD 7 0).toNat ∧ h.fields.target = (bs.getD 8 0).toNat
        ∧ h.fields.broken = bs.getD 9 0 ∧ h.fields.top = fieldAt bs 10 2
        ∧ h.fields.entries = (List.range h.fields.depth).map (levelEntryAt bs) ∧ h.serial = fieldAt bs 12 6 := by
  unfold headerOfBytes
  rw [Option.map_eq_some_iff]
  constructor
  · rintro ⟨st, state, rfl⟩
    exact ⟨state, rfl, rfl, rfl, rfl, rfl, rfl, rfl⟩
  · obtain ⟨generation, ⟨st, depth, target, broken, top, entries⟩, serial⟩ := h
    dsimp only
    rintro ⟨state, rfl, rfl, rfl, rfl, rfl, rfl, rfl⟩
    exact ⟨st, state, rfl⟩

/-- Tests 4 to 7 of a header (R60). -/
theorem headerLegal_iff (cap : Nat) (h : Header) :
    headerLegal cap h = true ↔
      h.fields.depth ≤ 8 ∧ (h.fields.depth = 0 ↔ h.fields.state = .clean ∨ h.fields.state = .wiping)
        ∧ (if h.fields.state = .replaying then h.fields.target < h.fields.depth else h.fields.target = 0)
        ∧ h.fields.top ≤ cap ∧ (h.fields.state = .clean ∨ h.fields.state = .wiping → h.fields.top = 0)
        ∧ (∀ e, h.fields.entries[0]? = some e → e.start = 0) ∧ startsRise h.fields.top 0 h.fields.entries = true := by
  have first : ((h.fields.entries.head?.map LevelEntry.start).getD 0 = 0) ↔
      ∀ e, h.fields.entries[0]? = some e → e.start = 0 := by
    cases h.fields.entries <;> simp
  unfold headerLegal
  simp only [Bool.and_eq_true, decide_eq_true_eq, first, and_assoc]
  cases h.fields.state <;> simp [Nat.one_le_iff_ne_zero]

theorem validHeader_eq_some_iff (cap : Nat) (bs : List Byte) (h : Header) :
    validHeader cap bs = some h ↔
      (bs.getD 0 0 = 0xC7 ∧ bs.getD 1 0 = 0x4D ∧ fieldAt bs 62 2 = (crc16 (bs.take 62)).toNat)
        ∧ headerOfBytes bs = some h ∧ headerLegal cap h = true := by
  unfold validHeader
  split
  · rename_i marked
    cases described : headerOfBytes bs with
    | none => simp
    | some g =>
      by_cases legal : headerLegal cap g = true
      · simp only [legal, if_true, Option.some.injEq]
        exact ⟨fun same => ⟨marked, same, same ▸ legal⟩, fun ⟨_, same, _⟩ => same⟩
      · simp only [legal, Option.some.injEq]
        exact ⟨fun absent => by simp at absent, fun ⟨_, same, other⟩ => absurd (same ▸ other) legal⟩
  · rename_i unmarked
    exact ⟨fun absent => by simp at absent, fun ⟨marked, _⟩ => absurd marked unmarked⟩

section
variable (h : Header)

/-- The 18 bytes of a header copy before its level entries (R199). -/
def headerFixed (h : Header) : List Byte :=
  [0xC7, 0x4D] ++ littleEndian 4 h.generation.toNat
  ++ [BitVec.ofNat 8 (HeaderState.code h.fields.state), BitVec.ofNat 8 h.fields.depth,
      BitVec.ofNat 8 h.fields.target, h.fields.broken]
  ++ littleEndian 2 h.fields.top ++ littleEndian 6 h.serial

theorem headerBytes_eq :
    headerBytes h =
      headerFixed h ++ (levelEntryBytes 8 h.fields.entries
        ++ (List.replicate 12 0 ++ littleEndian 2 (crc16 (headerBody h)).toNat)) := by
  simp only [headerBytes, headerBody, headerFixed, List.append_assoc]

@[simp] theorem levelEntryBytes_length (n : Nat) (es : List LevelEntry) : (levelEntryBytes n es).length = 4 * n := by
  induction n generalizing es with
  | zero => rfl
  | succ n ih =>
    cases es with
    | nil =>
      simp only [levelEntryBytes, List.length_append, List.length_replicate, ih]
      omega
    | cons e es =>
      simp only [levelEntryBytes, LevelEntry.bytes, List.length_append, littleEndian_length, ih]
      omega

theorem headerBody_length : (headerBody h).length = 62 := by simp [headerBody]

theorem headerBytes_length : (headerBytes h).length = 64 := by simp [headerBytes, headerBody_length]

theorem headerBytes_body : (headerBytes h).take 62 = headerBody h := List.take_left' (headerBody_length h)

/-- The check field holds the check (R199). -/
theorem headerBytes_check : fieldAt (headerBytes h) 62 2 = (crc16 (headerBody h)).toNat := by
  rw [headerBytes, fieldAt_append_right _ _ 0 2 62 (headerBody_length h)]
  exact ofLittleEndian_toNat 2 _ rfl

/-- The bytes of a level entry read back its start and its tag (R199). -/
theorem levelEntryBytes_read (n i : Nat) (es : List LevelEntry) (rest : List Byte) (e : LevelEntry) (hi : i < n)
    (he : es[i]? = some e) (hs : e.start < 2 ^ 16) :
    fieldAt (levelEntryBytes n es ++ rest) (4 * i) 2 = e.start
      ∧ fieldAt (levelEntryBytes n es ++ rest) (4 * i + 2) 2 = e.tag.toNat := by
  induction n generalizing i es with
  | zero => omega
  | succ n ih =>
    cases es with
    | nil => simp at he
    | cons a as =>
      rw [levelEntryBytes, List.append_assoc]
      cases i with
      | zero =>
        obtain rfl : a = e := by simpa using he
        exact ⟨ofLittleEndian_littleEndian 2 _ hs, ofLittleEndian_toNat 2 _ rfl⟩
      | succ i =>
        rw [Nat.mul_succ, Nat.add_comm (4 * i) 4, Nat.add_assoc]
        rw [fieldAt_append_right _ _ _ _ 4 rfl, fieldAt_append_right _ _ _ _ 4 rfl]
        exact ih i as (by omega) (by simpa using he)

theorem levelEntryAt_headerBytes (i : Nat) (e : LevelEntry) (hi : i < 8) (he : h.fields.entries[i]? = some e)
    (hs : e.start < 2 ^ 16) : levelEntryAt (headerBytes h) i = e := by
  obtain ⟨start, tag⟩ := levelEntryBytes_read 8 i h.fields.entries _ e hi he hs
  have past : 20 + 4 * i = 18 + (4 * i + 2) := by omega
  rw [levelEntryAt, headerBytes_eq, past, fieldAt_append_right _ _ _ _ 18 rfl, fieldAt_append_right _ _ _ _ 18 rfl,
    start, tag, BitVec.ofNat_toNat, BitVec.setWidth_eq]

/-- A header whose fields fit their bytes reads back as it was written (R199). -/
theorem headerOfBytes_headerBytes (depth : h.fields.depth ≤ 8) (target : h.fields.target < 256)
    (top : h.fields.top < 2 ^ 16) (starts : ∀ e ∈ h.fields.entries, e.start < 2 ^ 16)
    (levels : h.fields.entries.length = h.fields.depth) (serial : h.serial < 2 ^ 48) :
    headerOfBytes (headerBytes h) = some h := by
  have byte (n : Nat) (small : n < 256) : (BitVec.ofNat 8 n).toNat = n := by simp [Nat.mod_eq_of_lt small]
  have code : HeaderState.code h.fields.state < 256 := by cases h.fields.state <;> decide
  have generation : fieldAt (headerBytes h) 2 4 = h.generation.toNat := ofLittleEndian_toNat 4 _ rfl
  rw [headerOfBytes_eq_some_iff]
  refine ⟨?_, ?_, (byte _ (by omega)).symm, (byte _ target).symm, rfl, (ofLittleEndian_littleEndian 2 _ top).symm, ?_,
    (ofLittleEndian_littleEndian 6 _ serial).symm⟩
  · exact (congrArg HeaderState.ofCode (byte _ code)).trans (ofCode_code _)
  · rw [generation, BitVec.ofNat_toNat, BitVec.setWidth_eq]
  · refine List.ext_getElem (by simp [levels]) fun i inside _ => ?_
    rw [List.getElem_map, List.getElem_range]
    exact (levelEntryAt_headerBytes h i _ (by omega) (List.getElem?_eq_getElem inside)
      (starts _ (List.getElem_mem inside))).symm

/-- A legal header with no more slots than the array has passes every test when it is read back (R60). -/
theorem validHeader_headerBytes (cap : Nat) (legal : headerLegal cap h = true) (small : cap ≤ 32760)
    (levels : h.fields.entries.length = h.fields.depth) (serial : h.serial < 2 ^ 48) :
    validHeader cap (headerBytes h) = some h := by
  obtain ⟨depth, -, target, top, -, -, rise⟩ := (headerLegal_iff cap h).mp legal
  obtain ⟨-, starts, -⟩ := (startsRise_iff _ _ _).mp rise
  have low : h.fields.target < 256 := by split at target <;> omega
  rw [validHeader_eq_some_iff, headerBytes_check, headerBytes_body]
  refine ⟨⟨rfl, rfl, rfl⟩, headerOfBytes_headerBytes h depth low (by omega) (fun e he => ?_) levels serial, legal⟩
  have := starts e he
  omega

end

/-- Settles O35: the tests by `headerOfBytes_eq_some_iff` and `headerLegal_iff`, the fields by `fieldAt_eq_sum`. -/
theorem headerReadsBackAsWritten : Obligations.HeaderReadsBackAsWritten := by
  refine ⟨?_, fun cap h legal small levels serial =>
    ⟨headerBytes_length h, validHeader_headerBytes h cap legal small levels serial⟩⟩
  intro cap bs h num f still
  have field (i n : Nat) : fieldAt bs i n = num i n := fieldAt_eq_sum bs i n
  have byte (i : Nat) : num i 1 = (bs.getD i 0).toNat := by simp [num]
  have entry : levelEntryAt bs = fun l => ⟨num (18 + 4 * l) 2, BitVec.ofNat 16 (num (20 + 4 * l) 2)⟩ := by
    funext l
    rw [levelEntryAt, field, field]
  rw [validHeader_eq_some_iff, headerOfBytes_eq_some_iff, headerLegal_iff, startsRise_iff, ofCode_eq_some_iff, entry,
    field, field, field, field, ← byte, ← byte, ← byte]
  constructor
  · rintro ⟨⟨m0, m1, check⟩, ⟨state, generation, depth, target, broken, top, entries, serial⟩, eight, levels, low, fits,
      flat, first, -, below, rise⟩
    exact ⟨m0, m1, check, state, depth, eight, levels, target, low, top, fits, flat, entries, first, below, rise,
      generation, broken, serial⟩
  · rintro ⟨m0, m1, check, state, depth, eight, levels, target, low, top, fits, flat, entries, first, below, rise,
      generation, broken, serial⟩
    exact ⟨⟨m0, m1, check⟩, ⟨state, generation, depth, target, broken, top, entries, serial⟩, eight, levels, low, fits,
      flat, first, fun _ _ => Nat.zero_le _, below, rise⟩

end Sys2Proof.Formats
end

section
/-! PROOF. The immediate commands of the journal and of a halted replay, accepted and refused (R66, R67, R83, R86 to
R88, R107, R126, R190), and the registers of two bytes (R187, R189). -/

namespace Sys2Proof.ServiceWrites

set_option Elab.async false

open Sys2Proof.Machine Sys2Proof.Safety Sys2Proof.Laws Sys2Proof.JournalArea

variable {s : State}

/-! ## Where each immediate command is accepted -/

theorem headerIdle_iff (s : State) : headerIdle s = true ↔ s.jmg.headerWrite = none ∧ s.jmg.headerWaiting = none := by
  simp [headerIdle]

theorem haltCommandAllowed_iff (s : State) :
    haltCommandAllowed s = true ↔ s.ckc.state = .halted ∧ s.jmg.headerWrite = none ∧ s.jmg.headerWaiting = none
      ∧ s.ckc.restartPending = false := by
  simp [haltCommandAllowed, headerIdle_iff, and_assoc]

theorem syncAllowed_iff (s : State) :
    syncAllowed s = true ↔ s.jmg.headerStale = true ∧ (s.ckc.state = .ready ∨ s.ckc.state = .halted)
      ∧ s.jmg.headerWrite = none ∧ s.jmg.headerWaiting = none ∧ s.ckc.restartPending = false := by
  simp [syncAllowed, headerIdle_iff, and_assoc]

theorem formatAllowed_iff (s : State) :
    formatAllowed s = true ↔
      (s.ckc.state = .ready ∧ s.ckc.frames = [] ∨ s.ckc.state = .unformatted ∨ s.ckc.state = .await)
        ∧ s.jmg.headerWrite = none ∧ s.jmg.headerWaiting = none ∧ s.ckc.restartPending = false := by
  simp [formatAllowed, headerIdle_iff, depth_eq_zero, and_assoc, or_assoc]

theorem quiesceAllowed_iff (s : State) :
    quiesceAllowed s = true ↔ s.ckc.state = .ready ∧ s.ckc.queue = [] ∧ s.ckc.inService = none
      ∧ s.ckc.faultRequest = false ∧ s.hbp.current = none ∧ s.jmg.headerWrite = none ∧ s.jmg.headerWaiting = none
      ∧ s.svp.slotLoad = none ∧ s.ckc.restartPending = false := by
  simp [quiesceAllowed, headerIdle_iff, and_assoc]

/-! ## Commands accepted and refused -/

section
variable {c : CmdCode} {allowed : State → Bool} {effect : State → State} (h : WritesAt 1 1 s)
  (is : ∀ u, issueCommand u c = immediate (allowed u) effect u)
include h is

/-- An immediate command that is accepted takes its effect on the state that shows DONE (R190). -/
theorem commandByte_accepted
    (yes : allowed { s with svp := { s.svp with ack := true, staging := unstage .cmd s.svp.staging, stat := .ok } }
      = true) :
    commandByte c s = advanceIndex (effect { s with svp := commandDone s.svp }) := by
  rw [commandByte_issues s c h, is, immediate, if_pos yes]
  rfl

/-- One that is refused shows WRONG_STATE and changes nothing else (R190). -/
theorem commandByte_refused
    (no : allowed { s with svp := { s.svp with ack := true, staging := unstage .cmd s.svp.staging, stat := .ok } }
      ≠ true) :
    commandByte c s = { s with svp := { afterWrite .cmd .ok s.svp with cmdResult := .wrongState } } := by
  rw [commandByte_issues s c h, is, immediate, if_neg no]
  rfl

end

/-- The header of a stack at rest is CLEAN without a level and OPEN with one (R66, R77). -/
theorem restHeader_eq (fs : List Frame) (top : Nat) :
    restHeader fs top = if fs = [] then cleanHeader else openHeader fs top := by
  cases fs <;> rfl

/-- RESUME returns to the walk in REPLAY, or to the opening header that is owed (R87). -/
theorem resumeReplay_eq (s : State) :
    resumeReplay s =
      let replaying := rejudge { s with ckc := { s.ckc with state := .replay } }
      if s.rpe.openingOwed = true then requestOpening replaying else walkHead replaying := by
  simp only [resumeReplay, enterState_keeps_startUp .replay rfl]

/-- SKIP gives the slot at top − 1 up, after the retarget header if one is owed (R87). -/
theorem skipReplay_eq (s : State) :
    skipReplay s =
      let replaying := rejudge { s with ckc := { s.ckc with state := .replay } }
      if s.rpe.retargetPending = true then
        beginRetarget { replaying with rpe := { s.rpe with skipOwed := true } }
      else
        walkHead
          { replaying with
            jmg := { s.jmg with top := s.jmg.top - 1 }
            rpe := { s.rpe with partialUndo := true, skipOwed := false } } := by
  simp only [skipReplay, enterState_keeps_startUp .replay rfl, skipSlot, rejudge_rpe, rejudge_jmg]

/-- Settles O44: each command is accepted by the rule that allows it, and its effect is the equation of its own. -/
theorem haltAndJournalCommandsStartTheirWork : Obligations.HaltAndJournalCommandsStartTheirWork := by
  intro s h write waiting pending taken replaying fs described
  have halts (state : s.ckc.state = .halted) : haltCommandAllowed s = true :=
    (haltCommandAllowed_iff s).mpr ⟨state, write, waiting, pending⟩
  have resumes (state : s.ckc.state = .halted) : exec .resume s = .next (advanceIndex (resumeReplay taken)) :=
    congrArg _ (commandByte_accepted (c := .resume) h (fun _ => rfl) (halts state))
  have skips (state : s.ckc.state = .halted) (item : s.rpe.haltItem = .slot) :
      exec .skip s = .next (advanceIndex (skipReplay taken)) := by
    have allowed : (haltCommandAllowed s && decide (s.rpe.haltItem = .slot)) = true := by simp [halts state, item]
    exact congrArg _ (commandByte_accepted (c := .skip) h (fun _ => rfl) allowed)
  have syncs (stale : s.jmg.headerStale = true) (state : s.ckc.state = .ready ∨ s.ckc.state = .halted) :
      exec .sync s = .next (advanceIndex (syncHeader taken)) :=
    congrArg _ (commandByte_accepted (c := .sync) h (fun _ => rfl)
      ((syncAllowed_iff s).mpr ⟨stale, state, write, waiting, pending⟩))
  refine ⟨fun state owed => ?_, fun state owed => ?_, fun state item kept => ?_, fun state item owed => ?_,
    fun state => ?_, fun stale state => ?_, fun stale state => ?_, fun state => ?_⟩
  · rw [resumes state, resumeReplay_eq]
    dsimp only
    rw [if_neg (by simp [taken, owed])]
  · rw [resumes state, resumeReplay_eq]
    dsimp only
    rw [if_pos (by exact owed), requestOpening, setRpeStep, rejudge_ckc, rejudge_rpe, rejudge_jmg]
    rfl
  · rw [skips state item, skipReplay_eq]
    dsimp only
    rw [if_neg (by simp [taken, kept])]
  · rw [skips state item, skipReplay_eq]
    dsimp only
    rw [if_pos (by exact owed), beginRetarget, setRpeStep, rejudge_ckc, rejudge_jmg]
    rfl
  · exact congrArg _ (commandByte_accepted (c := .abandon) h (fun _ => rfl) (halts state))
  · rw [syncs stale (.inr state), syncHeader, if_pos (by exact state)]
    rfl
  · rw [syncs stale (.inl state), syncHeader, if_neg (by simp [taken, state]), restHeader_eq]
    rfl
  · have formats : exec .format s = .next (advanceIndex (formatJournal taken)) :=
      congrArg _ (commandByte_accepted (c := .format) h (fun _ => rfl)
        ((formatAllowed_iff s).mpr ⟨state, write, waiting, pending⟩))
    rw [formats, formatJournal, beginWipe_eq]
    rfl

/-- A byte that is the code of no command names none (R190). -/
theorem commandOf_eq_none {b : Byte} (h : (Instr.unknownCommand b).wellFormed = true) : commandOf b = none := by
  have codes : namedCodes = allCommands.map CmdCode.byte := by decide
  have unnamed : b ∉ allCommands.map CmdCode.byte := by simpa [Instr.wellFormed, ← codes] using h
  refine List.find?_eq_none.mpr fun c mem same => unnamed ?_
  exact List.mem_map.mpr ⟨c, mem, of_decide_eq_true same⟩

/-- Settles O45: each command is refused where the rule that allows it fails, by `commandByte_refused`. -/
theorem refusedCommandsChangeNothing : Obligations.RefusedCommandsChangeNothing := by
  intro s h wrong busy
  have halts (no : s.ckc.state ≠ .halted ∨ busy) : haltCommandAllowed s ≠ true := by
    rw [ne_eq, haltCommandAllowed_iff]
    rintro ⟨state, write, waiting, pending⟩
    simp [busy, state, write, waiting, pending] at no
  have skips (no : haltCommandAllowed s ≠ true ∨ s.rpe.haltItem ≠ .slot) : exec .skip s = .next wrong := by
    have refused : (haltCommandAllowed s && decide (s.rpe.haltItem = .slot)) ≠ true := by
      rw [ne_eq, Bool.and_eq_true, decide_eq_true_eq, not_and_or]
      exact no
    exact congrArg _ (commandByte_refused (c := .skip) h (fun _ => rfl) refused)
  refine ⟨fun no => ⟨?_, skips (.inl (halts no)), ?_⟩, fun no => skips (.inr no), fun no => ?_, fun no => ?_, fun no => ?_,
    fun no => ?_, fun code unnamed => ?_⟩
  · exact congrArg _ (commandByte_refused (c := .resume) h (fun _ => rfl) (halts no))
  · exact congrArg _ (commandByte_refused (c := .abandon) h (fun _ => rfl) (halts no))
  · have refused : syncAllowed s ≠ true := by
      rw [ne_eq, syncAllowed_iff]
      rintro ⟨stale, state | state, write, waiting, pending⟩ <;>
        simp [busy, stale, state, write, waiting, pending] at no
    exact congrArg _ (commandByte_refused (c := .sync) h (fun _ => rfl) refused)
  · have refused : formatAllowed s ≠ true := by
      rw [ne_eq, formatAllowed_iff]
      rintro ⟨⟨state, frames⟩ | state | state, write, waiting, pending⟩
      · simp [busy, state, frames, write, waiting, pending] at no
      · simp [busy, state, write, waiting, pending] at no
      · simp [busy, state, write, waiting, pending] at no
    exact congrArg _ (commandByte_refused (c := .format) h (fun _ => rfl) refused)
  · have refused : quiesceAllowed s ≠ true := by
      rw [ne_eq, quiesceAllowed_iff]
      rintro ⟨state, queue, service, fault, current, write, waiting, load, pending⟩
      simp [busy, state, queue, service, fault, current, write, waiting, load, pending] at no
    exact congrArg _ (commandByte_refused (c := .quiesce) h (fun _ => rfl) refused)
  · exact congrArg _ (commandByte_refused (c := .popRefusal) h (fun _ => rfl) (by simp [no]))
  · show Host.Outcome.next (unknownCommandByte code s) = _
    rw [unknownCommandByte, if_pos (commandOf_eq_none unnamed),
      dataByteAt_one (q := some 1) s code 1 1 [.cmd] .cmd h (by decide) rfl rfl, takeValue, writeCmd,
      BitVec.ofNat_toNat, BitVec.setWidth_eq, commandOf_eq_none unnamed]
    rfl

/-! ## Registers of two bytes -/

section
variable {q : Option Nat} {p : BitVec 2} {x : BitVec 6} {r : Reg} {i : Nat}

/-- The low byte of a register of two is staged (R187). -/
theorem lowByte_staged (b : Byte) (h : WritesAt p x s) (hrow : rowAt p.toNat x.toNat = some ⟨q, x.toNat, r, 2⟩)
    (hx : x ≠ 63) (hw : isWritable r = true) :
    dataByteAt [r] b s =
      { s with
        svp :=
          { s.svp with
            ack := true
            index := .index (x + 1)
            staging := unstageByte r 0 s.svp.staging ++ [⟨r, 0, b⟩] } } :=
  dataByteAt_below s b p x [r] r x.toNat 2 0 rfl (by decide) h hx hrow (by simp) hw

/-- The low byte of a value in the making: the one staged, or where none is, 0 in FLAGS and the present one in any
other register (R176, R187). -/
def LowByte (s : State) (r : Reg) (lo : Byte) : Prop :=
  (s.svp.staging.find? fun q => q.reg = r && q.offset = 0) = some ⟨r, 0, lo⟩
    ∨ (s.svp.staging.find? fun q => q.reg = r && q.offset = 0) = none
      ∧ lo = if r = .flags then 0 else (regBytes s r).getD 0 0

/-- The high byte of a register of two makes the value of both take effect (R187). -/
theorem highByte_taken (b lo : Byte) (h : WritesAt p x s) (hrow : rowAt p.toNat x.toNat = some ⟨q, i, r, 2⟩)
    (hx : x.toNat = i + 1) (hw : isWritable r = true) (low : LowByte s r lo)
    (hk : (if r = .flags then 0 else (regBytes s r).getD 0 0) = (keptBytes (setAck true s) r).getD 0 0) :
    dataByteAt [r] b s = advanceIndex (takeValue r (lo.toNat + 256 * b.toNat)
      { s with svp := { s.svp with ack := true, staging := unstage r s.svp.staging } }) := by
  have formed : formedValue r 2 b (setAck true s) = lo.toNat + 256 * b.toNat := by
    have staged := staged_or_kept r 0 lo _ (setAck true s) low hk
    refine (congrArg (fun c => ofLittleEndian [c, b]) staged).trans ?_
    simp [ofLittleEndian]
  rw [dataByteAt_highest s b p x [r] r i 2 h hx (by decide) hrow (by simp) hw, formed]

end

/-- A value in the range of its register takes effect, and another changes nothing (R189). -/
theorem advanceIndex_judged {legal : Bool} {P : Prop} [Decidable P] (h : legal = true ↔ P) (f : State → State)
    (u : State) :
    advanceIndex (judged legal f u) =
      if P then advanceIndex (f (setStat .ok u)) else advanceIndex (setStat .badValue u) := by
  rw [judged_eq, apply_ite advanceIndex]
  exact if_congr h rfl rfl

/-- Settles O49: the low byte by `lowByte_staged`, the high byte by `highByte_taken` and the range of its register. -/
theorem twoByteRegistersTakeTheWholeValue : Obligations.TwoByteRegistersTakeTheWholeValue := by
  intro s b
  constructor
  · intro i p x r listed h
    simp only [List.mem_cons, Prod.mk.injEq, List.not_mem_nil, or_false] at listed
    rcases listed with ⟨rfl, rfl, rfl, rfl⟩ | ⟨rfl, rfl, rfl, rfl⟩ | ⟨rfl, rfl, rfl, rfl⟩ | ⟨rfl, rfl, rfl, rfl⟩
      | ⟨rfl, rfl, rfl, rfl⟩ | ⟨rfl, rfl, rfl, rfl⟩ | ⟨rfl, rfl, rfl, rfl⟩ <;>
      exact congrArg _ (lowByte_staged b h rfl (by decide) rfl)
  · intro lo v low ok bad
    refine ⟨fun h lows => ?_, fun h lows => ?_, fun h lows => ?_, fun h lows => ?_, fun h lows => ?_,
      fun h lows => ?_, fun h lows => ?_⟩
    · refine congrArg _ ((highByte_taken b _ h rfl rfl rfl lows rfl).trans ?_)
      exact advanceIndex_judged (by simp [v]) _ _
    · exact congrArg _ (highByte_taken b _ h rfl rfl rfl lows rfl)
    · refine congrArg _ ((highByte_taken b _ h rfl rfl rfl lows rfl).trans ?_)
      exact advanceIndex_judged (by simp [v]) _ _
    · refine congrArg _ ((highByte_taken b _ h rfl rfl rfl lows rfl).trans ?_)
      exact advanceIndex_judged (by simp [v]) _ _
    · refine congrArg _ ((highByte_taken b _ h rfl rfl rfl lows rfl).trans ?_)
      exact advanceIndex_judged (by simp [v]) _ _
    · exact congrArg _ (highByte_taken b _ h rfl rfl rfl lows rfl)
    · exact congrArg _ (highByte_taken b _ h rfl rfl rfl lows rfl)

end Sys2Proof.ServiceWrites
end

section
/-! PROOF. How HBP judges a transaction: one presented where R110 keeps it UNTAKEN, an empty write, and one judged
again when CKC has entered a state (R80, R94, R109, R110, R113, R118, R119, R127). -/

namespace Sys2Proof.HostJudgement

set_option Elab.async false

open Sys2Proof.Machine Sys2Proof.Safety Sys2Proof.Laws Sys2Proof.WakeEnd

variable {s : State} {t : HostTxn} {c : Current}

/-! ## What becomes of a transaction that is taken -/

theorem isEmptyWrite_iff : isEmptyWrite t = true ↔ t.dir = .write ∧ t.len = .one ∧ t.be = 0 := by
  simp [isEmptyWrite, and_assoc]

/-- An empty write needs no memory: a BARRED region and a STEADY one with a level open refuse it, and any other answers
it OKAY (R113). -/
theorem takeTxn_emptyWrite (passes : firstFailedCheck s t = none) (empty : isEmptyWrite t = true) :
    takeTxn t s =
      if (lookupRegion s.hbp.regions t.addr).1 = .barred then refuseTxn t .barred s
      else if (lookupRegion s.hbp.regions t.addr).1 = .steady ∧ s.ckc.frames ≠ [] then refuseTxn t .steadyLocked s
      else answerOkay [] s := by
  obtain ⟨dir, -⟩ := isEmptyWrite_iff.mp empty
  split_ifs with barred locked
  · exact takeTxn_barred passes barred
  · obtain ⟨steady, levels⟩ := locked
    exact takeTxn_steadyLocked passes steady levels dir
  · exact takeTxn_empty passes empty barred locked

/-- The current transaction waits with a disposition. -/
def waiting (c : Current) (d : Disposition) (s : State) : State :=
  { s with hbp := { s.hbp with current := some { c with disposition := d } } }

theorem setDisposition_of_current (d : Disposition) (h : s.hbp.current = some c) :
    setDisposition d s = waiting c d s := by
  rw [setDisposition, h]
  rfl

/-- The current transaction is in SERVICE and its memory transaction waits (R118, R121). -/
def inMemory (c : Current) (s : State) : State :=
  { waiting c .service s with mbp := { s.mbp with waitHost := some (mirrorRequest c.txn) } }

theorem passOrHold_of_current (h : s.hbp.current = some c) (pending : s.ckc.restartPending = false) :
    passOrHold c.txn s = inMemory c s := by
  rw [passOrHold, if_neg (by simp [pending]), passThrough, setDisposition_of_current _ h, present_mirrorRequest]
  rfl

/-- What the JOURNALED columns of R118 make of the current transaction. -/
def fated (c : Current) (s : State) : JournaledFate → State
  | .pass => inMemory c s
  | .hold => waiting c .held s
  | .gate => waiting c .gate s
  | .refuse why => refuseTxn c.txn why s

/-- The current transaction is disposed of by its class, and a JOURNALED one by the controller state (R118). -/
theorem dispose_of_current (h : s.hbp.current = some c) (pending : s.ckc.restartPending = false) :
    dispose c s =
      if c.cls = .barred then refuseTxn c.txn .barred s
      else if c.cls = .journaled then fated c s (journaledFate c.txn.dir s.ckc.state)
      else if c.cls = .steady ∧ c.txn.dir = .write ∧ s.ckc.frames ≠ [] then refuseTxn c.txn .steadyLocked s
      else inMemory c s := by
  have passes := passOrHold_of_current h pending
  unfold dispose
  cases cls : c.cls with
  | pass => exact passes
  | barred => rfl
  | steady =>
    have same : c.txn.dir = .write ∧ depth s ≠ 0 ↔ c.txn.dir = .write ∧ s.ckc.frames ≠ [] := by
      simp only [ne_eq, depth_eq_zero]
    simp [passes, same]
  | journaled =>
    cases fate : journaledFate c.txn.dir s.ckc.state with
    | pass => exact passes
    | hold => exact setDisposition_of_current _ h
    | gate => exact setDisposition_of_current _ h
    | refuse why => rfl

/-- What the columns make of a transaction does not depend on how it stood before. -/
theorem fated_of_current (c : Current) (d : Option Current) (s : State) (fate : JournaledFate) :
    fated c { s with hbp := { s.hbp with current := d } } fate = fated c s fate := by
  cases fate with
  | pass | hold | gate => rfl
  | refuse why => exact refuseTxn_of_current c.txn why s d s.hbp.answer

/-! ## UNTAKEN -/

theorem canTake_iff (s : State) :
    canTake s = true ↔ s.resetHeld = false ∧ s.ckc.restartPending = false ∧ s.ckc.state ≠ .scan
      ∧ s.ckc.state ≠ .recover ∧ s.ckc.state ≠ .dormant := by
  simp [canTake, and_assoc]

theorem rejudge_untaken (current : s.hbp.current = some c) (untaken : c.disposition = .untaken) :
    rejudge s = if canTake s = true then takeTxn c.txn s else s := by
  rw [rejudge, current]
  dsimp only
  rw [untaken]

/-- An exception of R110 keeps an UNTAKEN transaction so. -/
theorem rejudge_keeps_untaken (current : s.hbp.current = some c) (untaken : c.disposition = .untaken)
    (kept : s.ckc.state = .scan ∨ s.ckc.state = .recover ∨ s.ckc.state = .dormant ∨ s.ckc.restartPending = true
      ∨ s.resetHeld = true) : rejudge s = s := by
  rw [rejudge_untaken current untaken, if_neg]
  rw [canTake_iff]
  rintro ⟨notHeld, pending, scan, recover, dormant⟩
  simp [notHeld, pending, scan, recover, dormant] at kept

/-- A waking event starts the wake's count, unless a wake is in progress (R109). -/
theorem startWake_eq (s : State) :
    startWake s =
      { s with
        ckc := if s.ckc.waking = true then s.ckc else { s.ckc with waking := true, wakeCount := 0 } } := by
  unfold startWake
  split <;> rfl

/-- The machine with a transaction just presented (R110). -/
def presented (t : HostTxn) (s : State) : State :=
  { s with hbp := { s.hbp with current := some ⟨t, .untaken, .pass, .refuse⟩, answer := .noneYet } }

theorem hostRequest_presents (none_ : s.hbp.current = none) :
    exec (.hostRequest t) s = .next
      (if (decide (s.ckc.state = .dormant) && !s.resetHeld) = true then startWake (presented t s)
       else rejudge (presented t s)) := by
  show Host.Outcome.next (presentTxn t s) = _
  rw [presentTxn, none_]
  rfl

theorem hostRequest_takes (h : TakesAtOnce s) :
    exec (.hostRequest t) s = .next (takeTxn t (presented t s)) := by
  obtain ⟨none_, notHeld, pending, scan, recover, dormant⟩ := h
  have taken : canTake (presented t s) = true := (canTake_iff _).mpr ⟨notHeld, pending, scan, recover, dormant⟩
  rw [hostRequest_presents none_, if_neg (by simp [dormant]),
    rejudge_untaken (c := ⟨t, .untaken, .pass, .refuse⟩) rfl rfl, if_pos taken]

/-- Settles O11: a kept transaction by `rejudge_keeps_untaken`, the wake by `startWake_eq`, and an empty write by
`takeTxn_emptyWrite`. -/
theorem untakenAndEmptyRequestsNeedNoMemory : Obligations.UntakenAndEmptyRequestsNeedNoMemory := by
  constructor
  · intro s t none_ notHeld h
    refine ⟨fun kept => ?_, fun dormant asleep => ?_, fun dormant waking => ?_⟩
    · have awake : s.ckc.state ≠ .dormant := by
        rcases kept with scan | recover | ⟨-, awake⟩
        · simp [scan]
        · simp [recover]
        · exact awake
      rw [hostRequest_presents none_, if_neg (by simp [awake])]
      refine congrArg _ (rejudge_keeps_untaken (c := ⟨t, .untaken, .pass, .refuse⟩) rfl rfl ?_)
      rcases kept with scan | recover | ⟨pending, -⟩
      · exact .inl scan
      · exact .inr (.inl recover)
      · exact .inr (.inr (.inr (.inl pending)))
    · rw [hostRequest_presents none_, if_pos (by simp [dormant, notHeld]), startWake_eq,
        if_neg (by simp [presented, asleep])]
      rfl
    · rw [hostRequest_presents none_, if_pos (by simp [dormant, notHeld]), startWake_eq, if_pos (by exact waking)]
      rfl
  · intro s t takes passes dir len be okay
    have refused (why : Reason) : refuseTxn t why (presented t s) = refuseTxn t why s :=
      refuseTxn_of_current t why s _ _
    have sameClass : lookupRegion (presented t s).hbp.regions t.addr = lookupRegion s.hbp.regions t.addr := rfl
    have sameFrames : (presented t s).ckc.frames = s.ckc.frames := rfl
    have answered : answerOkay [] (presented t s) = okay := rfl
    rw [hostRequest_takes takes, takeTxn_emptyWrite (by exact passes) (isEmptyWrite_iff.mpr ⟨dir, len, be⟩), refused,
      refused, answered, sameClass, sameFrames]
    cases (lookupRegion s.hbp.regions t.addr).1 with
    | pass | journaled | barred => rfl
    | steady => by_cases empty : s.ckc.frames = [] <;> simp [empty]

/-! ## Judged again -/

/-- A HELD or GATE transaction of class JOURNALED is disposed of by the state that stands; SCAN and RECOVER hold it as
the columns of R118 do (R80, R119). -/
theorem rejudge_journaled (current : s.hbp.current = some c) (waits : c.disposition = .held ∨ c.disposition = .gate)
    (cls : c.cls = .journaled) (pending : s.ckc.restartPending = false) :
    rejudge s = fated c s (journaledFate c.txn.dir s.ckc.state) := by
  have judged : rejudge s = if holdsHost s.ckc.state = true then setDisposition .held s else dispose c s := by
    rw [rejudge, current]
    rcases waits with held | gate
    · simp only [held]
    · simp only [gate]
  rw [judged, setDisposition_of_current _ current, dispose_of_current current pending, cls]
  cases s.ckc.state <;> rfl

/-- A transaction that passes the checks and is no empty write is disposed of by the class of its address; `c` is the
current transaction when it has been taken (R110, R115, R118). -/
theorem takeTxn_full (passes : firstFailedCheck s t = none) (full : isEmptyWrite t = false)
    (pending : s.ckc.restartPending = false) (c : Current)
    (is : c = ⟨t, .held, (lookupRegion s.hbp.regions t.addr).1, (lookupRegion s.hbp.regions t.addr).2⟩) :
    takeTxn t s =
      if c.cls = .barred then refuseTxn t .barred s
      else if c.cls = .journaled then fated c s (journaledFate t.dir s.ckc.state)
      else if c.cls = .steady ∧ t.dir = .write ∧ s.ckc.frames ≠ [] then refuseTxn t .steadyLocked s
      else inMemory c s := by
  subst is
  have refused (why : Reason) : refuseTxn t why (classed t s) = refuseTxn t why s :=
    refuseTxn_of_current t why s _ s.hbp.answer
  rw [takeTxn_passes passes, if_neg (by simp [full]), dispose_of_current (s := classed t s) rfl pending, refused,
    refused]
  exact if_congr Iff.rfl rfl (if_congr Iff.rfl (fated_of_current _ _ s _) rfl)

/-- Settles O12: a HELD or GATE transaction by `rejudge_journaled`, an UNTAKEN one by `rejudge_untaken` and what
`takeTxn` makes of it. -/
theorem heldTransactionIsJudgedAgain : Obligations.HeldTransactionIsJudgedAgain := by
  refine fun s => ⟨fun none_ => ?_, fun c current => ⟨fun busy => ?_, ?_, fun untaken kept => ?_, ?_⟩⟩
  · rw [rejudge, none_]
  · rw [rejudge, current]
    rcases busy with service | capture
    · simp only [service]
    · simp only [capture]
  · intro waits cls pending wait pass
    rw [rejudge_journaled current waits cls pending]
    cases s.ckc.state <;> cases c.txn.dir <;> rfl
  · exact rejudge_keeps_untaken current untaken kept
  · intro untaken scan recover dormant pending notHeld t r wait pass okay
    have taken : rejudge s = takeTxn t s :=
      (rejudge_untaken current untaken).trans
        (if_pos ((canTake_iff s).mpr ⟨notHeld, pending, scan, recover, dormant⟩))
    refine ⟨fun why fails => taken.trans (takeTxn_failed why fails), fun passes dir len be => ?_,
      fun passes full => ?_⟩
    · have answered : answerOkay [] s = okay := rfl
      rw [taken, takeTxn_emptyWrite passes (isEmptyWrite_iff.mpr ⟨dir, len, be⟩), answered]
      show (if r.1 = .barred then _ else if r.1 = .steady ∧ _ then _ else _) = _
      cases r.1 with
      | pass | journaled | barred => rfl
      | steady => by_cases empty : s.ckc.frames = [] <;> simp [empty]
    · have full' : isEmptyWrite t = false := Bool.eq_false_iff.mpr (mt isEmptyWrite_iff.mp full)
      obtain ⟨held, is⟩ : ∃ held : Current, held = ⟨t, .held, r.1, r.2⟩ := ⟨_, rfl⟩
      have passed : inMemory held s = pass := by rw [is]; rfl
      have class_ : held.cls = r.1 := by rw [is]
      rw [taken, takeTxn_full passes full' pending held is, passed, class_]
      cases r.1 with
      | pass => cases t.dir <;> rfl
      | barred => cases t.dir <;> rfl
      | steady => cases t.dir <;> by_cases empty : s.ckc.frames = [] <;> simp [empty]
      | journaled =>
        rw [is]
        cases state : s.ckc.state with
        | scan | recover | dormant => contradiction
        | _ => cases t.dir <;> rfl

end Sys2Proof.HostJudgement
end

section
/-! PROOF. The walk of the Replay Engine (chapter 4): the walk head with its pops, the slot read and the restore (R73 to
R75, R77, R83, R85, R94). -/

namespace Sys2Proof.ReplayWalk

set_option Elab.async false

open Sys2Proof.Machine Sys2Proof.Safety Sys2Proof.Laws Sys2Proof.Checkpoint Sys2Proof.HeaderEnds
open Sys2Proof.ServiceWrites (restHeader_eq)

variable {s : State} {f : Frame} {gs : List Frame} {k : Nat}

/-! ## The memory's answers and requests -/

theorem exec_replaySlotReadEnd (e : ReadEnding) (awaits : Awaits .replaySlotRead s) :
    exec (.replaySlotReadEnd e) s =
      .next (replaySlotReadEnded (ReadEnding.ending e) (endTransaction (ReadEnding.ending e) s)) :=
  congrArg _ (memoryAnswers_of_awaits _ _ s awaits)

theorem exec_restoreEnd (e : WriteEnding) (awaits : Awaits .restore s) :
    exec (.restoreEnd e) s = .next (restoreEnded (WriteEnding.ending e) (endTransaction (WriteEnding.ending e) s)) :=
  congrArg _ (memoryAnswers_of_awaits _ _ s awaits)

/-- An ENGINE request waits in its place, unless a restart is pending (R94, R162). -/
theorem presentEngine_eq (r : MemRequest) (s : State) (h : r.requester = .engine) :
    presentEngine r s =
      { s with
        mbp :=
          { s.mbp with waitEngine := if s.ckc.restartPending = true then s.mbp.waitEngine else some r } } := by
  unfold presentEngine present
  rw [h]
  cases s.ckc.restartPending <;> rfl

/-- The restore of a record takes the cell's pre-image back (R74). -/
theorem beginRestore_eq (r : Record) (s : State) :
    beginRestore r s =
      { s with
        mbp :=
          { s.mbp with
            waitEngine :=
              if s.ckc.restartPending = true then s.mbp.waitEngine
              else some ⟨.engine, .restore, r.cell, .write, .one, 0xF, [r.preImage]⟩ }
        rpe := { s.rpe with record := some r, step := .restore } } :=
  presentEngine_eq _ _ rfl

/-- The walk reads the slot below top (R73, R74). -/
theorem beginSlotRead_eq (s : State) :
    beginSlotRead s =
      { s with
        rpe := { s.rpe with cursor := s.jmg.top - 1, step := .read }
        mbp :=
          { s.mbp with
            waitEngine :=
              if s.ckc.restartPending = true then s.mbp.waitEngine
              else some ⟨.engine, .replaySlotRead, slotAddr s.straps (s.jmg.top - 1), .read, .four, 0xF, []⟩ } } :=
  presentEngine_eq _ _ rfl

/-- A replay that the memory's error stops (R85, R166). -/
theorem haltReplay_after_error (item : HaltItem) (s : State) :
    haltReplay .memory item (endTransaction .error s) = rejudge
      { s with
        mbp := answered s.mbp
        ckc := { s.ckc with state := .halted }
        rpe :=
          { s.rpe with
            step := .halted
            haltReason := .memory
            haltItem := item
            record := none
            skipOwed := false }
        acu := { s.acu with flags := s.acu.flags ||| 0x410 } } := by
  rw [endTransaction_error, haltReplay_eq]
  simp [raise, Flag.bit, Flag.number, BitVec.or_assoc]

/-- Settles O27: `beginRestore_eq` for a slot that passes, `haltReplay_eq` for any other. -/
theorem replayRestoresValidSlotsOnly : Obligations.ReplayRestoresValidSlotsOnly := by
  intro s cells awaits bs r ok stopped
  have reads : exec (.replaySlotReadEnd (.done cells)) s = .next
      (if ok then beginRestore r { s with mbp := answered s.mbp }
       else haltReplay .corruptSlot .slot { s with mbp := answered s.mbp }) :=
    exec_replaySlotReadEnd _ awaits
  refine ⟨fun passes => ?_, fun fails => ?_, ?_⟩
  · rw [reads, if_pos passes, beginRestore_eq]
    rfl
  · rw [reads, if_neg fails, haltReplay_eq]
  · rw [exec_replaySlotReadEnd _ awaits]
    exact congrArg _ (haltReplay_after_error .slot s)

/-! ## The pops of the walk head -/

/-- The machine with its `k` top levels popped (R75). -/
def popped (k : Nat) (s : State) : State :=
  { s with
    ckc := { s.ckc with frames := s.ckc.frames.take (s.ckc.frames.length - k) }
    cpe :=
      { s.cpe with
        captureSet := s.cpe.captureSet.filter fun e => decide (k = 0 ∨ e.level ≤ s.ckc.frames.length - k) }
    rpe :=
      { s.rpe with
        partialUndo := s.rpe.partialUndo || (s.ckc.frames.drop (s.ckc.frames.length - k)).any Frame.broken } }

theorem popped_zero (s : State) : popped 0 s = s := by simp [popped]

theorem popFrame_frames (h : s.ckc.frames = gs ++ [f]) : (popFrame s).ckc.frames = gs := by
  rw [popFrame_of_last s f (by simp [h])]
  simp [h]

/-- One pop and `k` more are `k` + 1 pops. -/
theorem popped_popFrame (h : s.ckc.frames = gs ++ [f]) (enough : k ≤ gs.length) :
    popped k (popFrame s) = popped (k + 1) s := by
  have entries (e : CaptureEntry) : (decide (k = 0 ∨ e.level ≤ gs.length - k) && decide (e.level < gs.length + 1))
      = decide (e.level ≤ gs.length - k) := by
    rw [← Bool.decide_and]
    exact decide_eq_decide.mpr (by omega)
  have below : gs.length - k ≤ gs.length := Nat.sub_le _ _
  rw [popFrame_of_last s f (by simp [h])]
  simp only [popped, h, List.dropLast_concat, List.length_append, List.length_singleton, Nat.add_sub_add_right,
    List.take_append_of_le_length below, List.drop_append_of_le_length below, cutSet, List.filter_filter, entries,
    List.any_append, Nat.add_one_ne_zero, false_or]
  simp [Bool.or_assoc, Bool.or_comm f.broken]

/-- What the pops of the walk head leave: the levels popped start at top and stand above level t + 1, and the next is
not one to pop (R73). -/
structure PopsTo (s : State) (k : Nat) : Prop where
  within : k ≤ s.ckc.frames.length
  empty : ∀ f ∈ s.ckc.frames.drop (s.ckc.frames.length - k), f.start = s.jmg.top
  above : k = 0 ∨ s.rpe.target + 1 ≤ s.ckc.frames.length - k
  rest : s.ckc.frames.length - k ≤ s.rpe.target + 1
    ∨ ∀ f, (s.ckc.frames.take (s.ckc.frames.length - k)).getLast? = some f → f.start ≠ s.jmg.top

theorem popsTo_zero (h : s.ckc.frames.length ≤ s.rpe.target + 1
    ∨ ∀ f, s.ckc.frames.getLast? = some f → f.start ≠ s.jmg.top) : PopsTo s 0 :=
  ⟨Nat.zero_le _, by simp, .inl rfl, by simpa using h⟩

theorem popsTo_succ (h : s.ckc.frames = gs ++ [f]) (deep : s.rpe.target + 1 < s.ckc.frames.length)
    (empty : f.start = s.jmg.top) (more : PopsTo (popFrame s) k) : PopsTo s (k + 1) := by
  have below : gs.length - k ≤ gs.length := Nat.sub_le _ _
  rw [popFrame_of_last s f (by simp [h])] at more
  obtain ⟨within, starts, above, rest⟩ := more
  simp only [h, List.dropLast_concat] at within starts above rest
  have deep' : s.rpe.target + 1 < gs.length + 1 := by simpa [h] using deep
  refine ⟨?_, ?_, ?_, ?_⟩ <;>
    simp only [h, List.length_append, List.length_singleton, Nat.add_sub_add_right,
      List.take_append_of_le_length below, List.drop_append_of_le_length below]
  · omega
  · intro g mem
    rcases List.mem_append.mp mem with lower | top
    · exact starts g lower
    · rw [List.mem_singleton.mp top, empty]
  · omega
  · exact rest

/-- The pops of the walk head take off exactly the levels that R73 names. -/
theorem popEmptyLevels_popsTo (fuel : Nat) (s : State) (enough : s.ckc.frames.length ≤ fuel) :
    ∃ k, popEmptyLevels fuel s = popped k s ∧ PopsTo s k := by
  induction fuel generalizing s with
  | zero => exact ⟨0, (popped_zero s).symm, popsTo_zero (.inl (by omega))⟩
  | succ fuel ih =>
    unfold popEmptyLevels
    split
    next f top =>
      obtain ⟨gs, frames⟩ := List.getLast?_eq_some_iff.mp top
      split
      next pops =>
        obtain ⟨deep, empty⟩ := pops
        obtain ⟨k, same, more⟩ := ih (popFrame s) (by simpa [popFrame_frames frames, frames] using enough)
        have within : k ≤ gs.length := popFrame_frames frames ▸ more.within
        exact ⟨k + 1, same.trans (popped_popFrame frames within), popsTo_succ frames deep empty more⟩
      next stays =>
        refine ⟨0, (popped_zero s).symm, popsTo_zero ?_⟩
        refine (Nat.lt_or_ge (s.rpe.target + 1) s.ckc.frames.length).symm.imp_right fun deep g last start => ?_
        obtain rfl : f = g := Option.some.inj (top.symm.trans last)
        exact stays ⟨deep, start⟩
    next none_ =>
      refine ⟨0, (popped_zero s).symm, popsTo_zero (.inl ?_)⟩
      simp [List.getLast?_eq_none_iff.mp none_]

/-- Nothing is popped where the top frame does not start at top (R73). -/
theorem popEmptyLevels_of_start (fuel : Nat) (top : s.ckc.frames.getLast? = some f) (starts : f.start ≠ s.jmg.top) :
    popEmptyLevels fuel s = s := by
  cases fuel with
  | zero => rfl
  | succ fuel => simp [popEmptyLevels, top, starts]

/-- Nothing is popped at depth t + 1 (R73). -/
theorem popEmptyLevels_of_depth (fuel : Nat) (deep : s.ckc.frames.length ≤ s.rpe.target + 1) :
    popEmptyLevels fuel s = s := by
  cases fuel with
  | zero => rfl
  | succ fuel =>
    have shallow : ¬ s.rpe.target + 1 < depth s := Nat.not_lt.mpr deep
    unfold popEmptyLevels
    split
    · exact if_neg fun ⟨deeper, _⟩ => shallow deeper
    · rfl

/-! ## The walk head -/

theorem walkHead_retarget (h : s.rpe.retargetPending = true) : walkHead s = beginRetarget s := if_pos h

theorem walkHead_walks (h : s.rpe.retargetPending = false) :
    walkHead s =
      if walkEnded (popEmptyLevels s.ckc.frames.length s) = true then
        beginClosing (popEmptyLevels s.ckc.frames.length s)
      else beginSlotRead (popEmptyLevels s.ckc.frames.length s) :=
  if_neg (by simp [h])

theorem walkEnded_iff (s : State) :
    walkEnded s = true ↔ s.ckc.frames.length = s.rpe.target + 1
      ∧ s.ckc.frames.getLast?.map Frame.start = some s.jmg.top := by
  rw [walkEnded, Bool.and_eq_true, decide_eq_true_eq, decide_eq_true_eq]
  rfl

/-- The closing header asked for at depth t + 1: CLEAN at target 0, OPEN above it (R77). -/
theorem restHeader_take (fs : List Frame) (t top : Nat) (h : t < fs.length) :
    restHeader (fs.take t) top =
      if t = 0 then ⟨.clean, 0, 0, 0, 0, []⟩
      else ⟨.opened, t, 0, brokenFlags (fs.take t), top, levelEntries (fs.take t)⟩ := by
  have nonempty : fs ≠ [] := List.ne_nil_of_length_pos (by omega)
  rw [restHeader_eq]
  refine if_congr (by simp [List.take_eq_nil_iff, nonempty]) rfl ?_
  rw [openHeader, List.length_take_of_le h.le]

/-- Settles O29: the pops by `popEmptyLevels_popsTo`, then `walkEnded_iff` decides between the closing header and the
slot read. -/
theorem walkPopsTheEmptyLevels : Obligations.WalkPopsTheEmptyLevels := by
  intro s fs n t u
  obtain ⟨k, same, within, empty, above, rest⟩ := popEmptyLevels_popsTo n s le_rfl
  have after : u = popped k s := same
  refine ⟨fun retarget => ?_, fun kept deep top => ?_, fun kept goes => ?_, k, within, same, empty, above, rest⟩
  · exact walkHead_retarget retarget
  · have target : u.rpe.target = t := by rw [after]; rfl
    have sameTop : u.jmg.top = s.jmg.top := by rw [after]; rfl
    have frames : u.ckc.frames = fs.take (n - k) := by rw [after]; rfl
    have left : n - k = t + 1 := by rwa [frames, List.length_take_of_le (Nat.sub_le n k)] at deep
    have lower : u.ckc.frames.take t = fs.take t := by
      rw [frames, left, List.take_take, Nat.min_eq_left (Nat.le_succ t)]
    have ended : walkEnded u = true := (walkEnded_iff u).mpr ⟨by rw [target, deep], by rw [sameTop, top]⟩
    calc walkHead s
        = beginClosing u := (walkHead_walks kept).trans (if_pos ended)
      _ = requestHeader .closing (restHeader (u.ckc.frames.take u.rpe.target) u.jmg.top) (setRpeStep .closing u) := rfl
      _ = _ := by
        rw [restHeader_take _ _ _ (by omega), target, sameTop, lower]
        rfl
  · have open_ : ¬ walkEnded u = true := by
      rw [walkEnded_iff]
      rintro ⟨deep, top⟩
      rw [after] at deep top goes
      exact goes.elim (absurd deep) (absurd top)
    calc walkHead s
        = beginSlotRead u := (walkHead_walks kept).trans (if_neg open_)
      _ = _ := by
        rw [beginSlotRead_eq, after]
        rfl

/-! ## The restore -/

/-- A restore that completes lowers top and the bound and is counted (R74). -/
theorem restoreEnded_done (cells : Beats) (s : State) (r : Record) (h : s.rpe.record = some r) :
    restoreEnded (.done cells) s = walkHead (count .replayed 1
      { s with
        jmg := { s.jmg with top := s.jmg.top - 1 }
        rpe := { s.rpe with serialBound := r.serial, record := none } }) := by
  rw [restoreEnded, h]
  rfl

theorem restoreEnded_error (s : State) (r : Record) (h : s.rpe.record = some r) :
    restoreEnded .error s = haltReplay .memory .slot s := by
  rw [restoreEnded, h]
  rfl

/-- Settles O28: `restoreEnded_done`, then the three ways of the walk head. -/
theorem restoreLowersTopAndWalksOn : Obligations.RestoreLowersTopAndWalksOn := by
  intro s r awaits record top fs t u
  have walks : exec (.restoreEnd .done) s = .next (walkHead u) :=
    (exec_restoreEnd .done awaits).trans (congrArg _ (restoreEnded_done Beats.zero _ r record))
  refine ⟨walks, fun retarget => ?_, fun f kept last starts pending => ?_, fun f kept last starts deep => ?_, ?_⟩
  · exact walks.trans (congrArg _ (walkHead_retarget retarget))
  · have stays : popEmptyLevels u.ckc.frames.length u = u := popEmptyLevels_of_start _ last starts
    have goes : ¬ walkEnded u = true := by
      rw [walkEnded_iff]
      rintro ⟨-, ended⟩
      refine starts (Option.some.inj ?_)
      rw [← ended]
      exact (congrArg (Option.map Frame.start) last).symm
    have reads : walkHead u = beginSlotRead u := by rw [walkHead_walks (s := u) kept, stays, if_neg goes]
    rw [walks, reads, beginSlotRead_eq, if_neg (by rw [show u.ckc.restartPending = false from pending]; simp)]
  · have stays : popEmptyLevels u.ckc.frames.length u = u := popEmptyLevels_of_depth _ deep.le
    have ended : walkEnded u = true :=
      (walkEnded_iff u).mpr ⟨deep, (congrArg (Option.map Frame.start) last).trans (congrArg some starts)⟩
    have closes : walkHead u = beginClosing u := by rw [walkHead_walks (s := u) kept, stays, if_pos ended]
    rw [walks, closes, ← restHeader_take fs t top (by omega)]
    rfl
  · rw [exec_restoreEnd _ awaits]
    exact congrArg _ ((restoreEnded_error (endTransaction .error s) r record).trans (haltReplay_after_error .slot s))

end Sys2Proof.ReplayWalk
end

section
/-! PROOF. What an edge of the FAULT line does in each controller state (R82, R84, R138 to R140, R146). -/

namespace Sys2Proof.FaultLine

set_option Elab.async false

open Sys2Proof.Machine Sys2Proof.Safety Sys2Proof.Laws
open Sys2Proof.HostJudgement (startWake_eq)

variable {s : State}

/-- What a FAULT event makes of the machine, by its effect (R139, R140). -/
def faultTaken (s : State) : FaultEffect → State
  | .flagOnly => raise .fault s
  | .request => setFaultRequest (discardQueue (raise .fault s))
  | .retarget => retargetUndo (discardQueue (raise .fault s))

theorem seeFault_of_other {edge : Edge} (h : edge ≠ s.siu.faultPolarity) : seeFault edge s = s :=
  if_pos (by simp [h.symm])

theorem seeFault_of_selected {edge : Edge} (notHeld : s.resetHeld = false) (h : edge = s.siu.faultPolarity) :
    seeFault edge s =
      if s.ckc.state = .dormant then startWake { raise .fault s with siu := { s.siu with wakeFault := true } }
      else takeFault s :=
  if_neg (by simp [h, notHeld])

theorem takeFault_undoAll (h : s.siu.faultAction = .undoAll) : takeFault s = faultTaken s (faultEffect s) := by
  rw [takeFault, h]
  cases faultEffect s <;> rfl

/-- The target falls to 0 with retarget pending, unless it is 0 already (R82, R84). -/
theorem retargetUndo_eq (s : State) :
    retargetUndo s =
      { s with
        rpe :=
          { s.rpe with
            target := 0
            retargetPending := if s.rpe.target = 0 then s.rpe.retargetPending else true } } := by
  unfold retargetUndo
  by_cases zero : s.rpe.target = 0
  · rw [if_pos zero, if_pos zero, ← zero]
  · rw [if_neg zero, if_neg zero]

/-- Settles O38: the edge by `seeFault_of_selected`, the state by the table `faultEffect`. -/
theorem faultEventFollowsTheTable : Obligations.FaultEventFollowsTheTable := by
  intro s edge notHeld flagged emptied requested retargeted
  have retargets : faultTaken s .retarget = retargeted := retargetUndo_eq _
  refine ⟨fun selected action awake => ?_, fun selected action awake => ?_, fun selected dormant => ?_,
    fun other => congrArg _ (seeFault_of_other other)⟩
  · show Host.Outcome.next (seeFault edge s) = _
    rw [seeFault_of_selected notHeld selected, if_neg awake, takeFault_undoAll action, faultEffect]
    cases s.ckc.state with
    | ready =>
      refine congrArg _ ((apply_ite (faultTaken s) _ _ _).trans ?_)
      exact if_congr (depth_eq_zero s) rfl rfl
    | replay | halted => exact congrArg _ retargets
    | _ => rfl
  · show Host.Outcome.next (seeFault edge s) = _
    rw [seeFault_of_selected notHeld selected, if_neg awake, takeFault, action]
    rfl
  · show Host.Outcome.next (seeFault edge s) = _
    rw [seeFault_of_selected notHeld selected, if_pos dormant, startWake_eq]
    rfl

end Sys2Proof.FaultLine
end

section
/-! PROOF. The region table stands still while a level is open, and the straps between resets (R92, R116): of the host
port's fields the table is written by a commit alone, and a commit is refused while a level is open. -/

namespace Sys2Proof.RegionTable

set_option Elab.async false

open Sys2Proof.Machine Sys2Proof.Safety Sys2Proof.Laws
open Sys2Proof.TimeAndWake (wokenOf NoWakeStall noWakeStall_of_none host_svp strobes_svp fault_svp service_idle)

variable {s t : State} {bs : List Block} {rs : Vector Region 12}

/-- The region table stands as `rs`. -/
def TableIs (rs : Vector Region 12) (s : State) : Prop := s.hbp.regions = rs

/-- A level is open (R3). -/
def LevelOpen (s : State) : Prop := s.ckc.frames ≠ []

/-- An operation that does not touch the host port leaves the table as it is. -/
theorem table_of_touches (ht : Touches bs s t) (h : TableIs rs s) (hb : Block.hbp ∉ bs := by decide) :
    TableIs rs t := by
  have same : t.hbp = s.hbp := ht .hbp hb
  exact (congrArg Hbp.regions same).trans h

/-- An operation that does not touch the controller leaves a level open. -/
theorem levelOpen_of_touches (ht : Touches bs s t) (h : LevelOpen s) (hb : Block.ckc ∉ bs := by decide) :
    LevelOpen t := by
  have same : t.ckc = s.ckc := ht .ckc hb
  unfold LevelOpen
  rw [same]
  exact h

/-- Frames that change without leaving the stack leave a level open. -/
theorem LevelOpen.map (h : LevelOpen s) (f : Frame → Frame) (he : t.ckc.frames = s.ckc.frames.map f) :
    LevelOpen t := by
  unfold LevelOpen
  rw [he]
  exact mt List.map_eq_nil_iff.mp h

/-! ## The host port -/

theorem enterRefusal_regions (r : Refused) (x : Hbp) : (enterRefusal r x).regions = x.regions := by
  unfold enterRefusal
  split <;> rfl

theorem refuseTxn_table (x : HostTxn) (why : Reason) (h : TableIs rs s) : TableIs rs (refuseTxn x why s) :=
  (enterRefusal_regions _ s.hbp).trans h

theorem respond_table (why : Option Reason) (d : List Cell) (h : TableIs rs s) : TableIs rs (respond why d s) := by
  unfold respond
  split
  · unfold refuse
    split
    · exact h
    · exact refuseTxn_table _ _ h
  · exact h

theorem passThrough_table (x : HostTxn) (h : TableIs rs s) : TableIs rs (passThrough x s) :=
  table_of_touches (present_touches _ (setDisposition .service s)) h

theorem passOrHold_table (x : HostTxn) (h : TableIs rs s) : TableIs rs (passOrHold x s) := by
  unfold passOrHold
  split
  · exact h
  · exact passThrough_table x h

theorem dispose_table (c : Current) (h : TableIs rs s) : TableIs rs (dispose c s) := by
  unfold dispose
  split
  · exact passOrHold_table _ h
  · exact refuseTxn_table _ _ h
  · split
    · exact refuseTxn_table _ _ h
    · exact passOrHold_table _ h
  · split
    · exact passOrHold_table _ h
    · exact h
    · exact h
    · exact refuseTxn_table _ _ h

theorem disposeEmptyWrite_table (c : Current) (h : TableIs rs s) : TableIs rs (disposeEmptyWrite c s) := by
  unfold disposeEmptyWrite
  split
  · exact refuseTxn_table _ _ h
  · split
    · exact refuseTxn_table _ _ h
    · exact h
  · exact h

theorem takeTxn_table (x : HostTxn) (h : TableIs rs s) : TableIs rs (takeTxn x s) := by
  unfold takeTxn
  split
  · exact refuseTxn_table _ _ h
  · dsimp only
    split
    · exact disposeEmptyWrite_table _ h
    · exact dispose_table _ h

theorem rejudge_table (h : TableIs rs s) : TableIs rs (rejudge s) := by
  unfold rejudge
  split
  · exact h
  split
  · split
    · exact takeTxn_table _ h
    · exact h
  · split
    · exact h
    · exact dispose_table _ h
  · split
    · exact h
    · exact dispose_table _ h
  · exact h
  · exact h

theorem enterState_table (st : CtrlState) (h : TableIs rs s) : TableIs rs (enterState st s) := by
  apply rejudge_table
  split <;> exact h

theorem raiseIf_table (c : Bool) (f : Flag) (h : TableIs rs s) : TableIs rs (raiseIf c f s) :=
  table_of_touches (raiseIf_touches c f s) h

theorem recordOutcome_table (o : LastOutcome) (h : TableIs rs s) : TableIs rs (recordOutcome o s) :=
  table_of_touches (recordOutcome_touches o s) h

theorem completeCommand_table (o : LastOutcome) (st : CtrlState) (h : TableIs rs s) :
    TableIs rs (completeCommand o st s) :=
  enterState_table st (recordOutcome_table o h)

theorem startWake_table (h : TableIs rs s) : TableIs rs (startWake s) := table_of_touches (startWake_touches s) h

theorem presentTxn_table (x : HostTxn) (h : TableIs rs s) : TableIs rs (presentTxn x s) := by
  unfold presentTxn
  split
  · exact h
  · dsimp only
    split
    · exact startWake_table h
    · exact rejudge_table h

/-! ## The capture and the gate -/

theorem insertEntries_table (l : Nat) (cells : List Addr) (h : TableIs rs s) : TableIs rs (insertEntries l cells s) :=
  table_of_touches (insertEntries_touches l cells s) h

theorem finishCapture_table (c : Capture) (why : Option Reason) (h : TableIs rs s) :
    TableIs rs (finishCapture c why s) :=
  respond_table why [] (insertEntries_table c.level (c.list.take c.appended) h)

theorem checkCapture_table (c : Capture) (h : TableIs rs s) : TableIs rs (checkCapture c s) := by
  unfold checkCapture
  dsimp only
  split
  · exact h
  split
  · exact finishCapture_table c _ h
  split
  · exact finishCapture_table c _ h
  split
  · exact h
  split
  · exact finishCapture_table c _ h
  · exact h

theorem tryGate_table (h : TableIs rs s) : TableIs rs (tryGate s) := by
  unfold tryGate
  split
  · split
    · unfold enterGate
      dsimp only
      split
      · exact passThrough_table _ h
      · exact checkCapture_table _ h
    · exact h
  · exact h

theorem preImageReadEnded_table (e : Ending) (h : TableIs rs s) : TableIs rs (preImageReadEnded e s) := by
  unfold preImageReadEnded
  split
  · exact h
  split
  · exact finishCapture_table _ _ h
  · exact h

theorem appendEnded_table (e : Ending) (h : TableIs rs s) : TableIs rs (appendEnded e s) := by
  unfold appendEnded
  split
  · exact h
  split
  · exact finishCapture_table _ _ h
  · have risen : TableIs rs (raiseTop s) := table_of_touches (raiseTop_touches s) h
    dsimp only
    split <;> exact risen

theorem captureWriteEnded_table (e : Ending) (h : TableIs rs s) : TableIs rs (captureWriteEnded e s) := by
  unfold captureWriteEnded
  split
  · exact h
  · exact finishCapture_table _ _ h

theorem passThroughEnded_table (e : Ending) (h : TableIs rs s) : TableIs rs (passThroughEnded e s) := by
  unfold passThroughEnded
  split
  · exact h
  · apply respond_table
    split <;> exact h

/-! ## The wipe and the undo -/

theorem beginWipe_table (h : TableIs rs s) : TableIs rs (beginWipe s) :=
  table_of_touches (requestHeader_touches _ _ _) (enterState_table .wipe h)

theorem resumeWipe_table (h : TableIs rs s) : TableIs rs (resumeWipe s) :=
  table_of_touches (continueWipe_touches _) (enterState_table .wipe h)

theorem wipeHeaderEnded_table (p : HeaderPurpose) (ok : Bool) (h : TableIs rs s) :
    TableIs rs (wipeHeaderEnded p ok s) := by
  unfold wipeHeaderEnded
  split
  · exact table_of_touches (continueWipe_touches s) h
  · exact table_of_touches (requestHeader_touches _ _ s) h
  · exact enterState_table _ h
  · exact table_of_touches (requestHeader_touches _ _ s) h

theorem walkHead_table (h : TableIs rs s) : TableIs rs (walkHead s) := table_of_touches (walkHead_touches s) h

theorem setStale_table (h : TableIs rs s) : TableIs rs (setStale s) := table_of_touches (setStale_touches s) h

theorem haltReplay_table (why : HaltReason) (item : HaltItem) (h : TableIs rs s) : TableIs rs (haltReplay why item s) :=
  enterState_table .halted h

theorem replaySlotReadEnded_table (e : Ending) (h : TableIs rs s) : TableIs rs (replaySlotReadEnded e s) := by
  unfold replaySlotReadEnded
  split
  · dsimp only
    split
    · exact table_of_touches (beginRestore_touches _ s) h
    · exact haltReplay_table _ _ h
  · exact haltReplay_table _ _ h

theorem restoreEnded_table (e : Ending) (h : TableIs rs s) : TableIs rs (restoreEnded e s) := by
  unfold restoreEnded
  split
  · exact h
  split
  · exact walkHead_table h
  · exact haltReplay_table _ _ h

theorem retargetEnded_table (ok : Bool) (h : TableIs rs s) : TableIs rs (retargetEnded ok s) := by
  unfold retargetEnded
  split
  · apply walkHead_table
    split <;> exact h
  · exact haltReplay_table _ _ (setStale_table h)

theorem endUndo_table (f : Option Frame) (o : CmdOutcome) (h : TableIs rs s) : TableIs rs (endUndo f o s) :=
  completeCommand_table _ .ready (raiseIf_table _ .done h)

theorem closingEnded_table (ok : Bool) (h : TableIs rs s) : TableIs rs (closingEnded ok s) := by
  have marked : TableIs rs (if ok then s else setStale s) := by
    split
    · exact h
    · exact setStale_table h
  have popped := table_of_touches (popFrame_touches _) marked
  unfold closingEnded
  dsimp only
  generalize popFrame (if ok = true then s else setStale s) = u at popped ⊢
  split
  · exact walkHead_table popped
  · exact endUndo_table _ _ popped

theorem undoOpeningEnded_table (ok : Bool) (h : TableIs rs s) : TableIs rs (undoOpeningEnded ok s) := by
  unfold undoOpeningEnded
  split
  · exact walkHead_table h
  split
  · exact haltReplay_table _ _ h
  · exact endUndo_table _ _ h

theorem abandonEnded_table (ok : Bool) (h : TableIs rs s) : TableIs rs (abandonEnded ok s) := by
  unfold abandonEnded
  split
  · exact endUndo_table _ _ h
  · exact setStale_table h

theorem resumeReplay_table (h : TableIs rs s) : TableIs rs (resumeReplay s) := by
  have entered := enterState_table .replay h
  unfold resumeReplay
  dsimp only
  split
  · exact table_of_touches (requestOpening_touches _) entered
  · exact walkHead_table entered

theorem skipReplay_table (h : TableIs rs s) : TableIs rs (skipReplay s) := by
  have entered := enterState_table .replay h
  unfold skipReplay
  dsimp only
  split
  · exact table_of_touches (Touches_trans (touches_rpe _ _) (beginRetarget_touches _)
      (cs := [.jmg, .rpe, .mbp])) entered
  · exact walkHead_table entered

/-! ## The commands of the controller -/

theorem startUndo_table (c : InService) (h : TableIs rs s) : TableIs rs (startUndo c s) := by
  have entered : TableIs rs (enterState .replay { s with ckc := { s.ckc with inService := some c } }) :=
    enterState_table .replay h
  exact table_of_touches (Touches_trans (loadUndo_touches _ _ _) (requestOpening_touches _)
    (cs := [.jmg, .rpe, .mbp])) entered

theorem takeOpen_table (e : QueueEntry) (h : TableIs rs s) : TableIs rs (takeOpen e s) := by
  unfold takeOpen
  split
  · split
    · exact completeCommand_table _ _ h
    · exact table_of_touches (requestHeader_touches _ _ _) (enterState_table .enter h)
  · split
    · exact completeCommand_table _ _ h
    · exact table_of_touches (requestHeader_touches _ _ _) (enterState_table .merge h)
  all_goals
    split
    · exact startUndo_table _ h
    · exact completeCommand_table _ _ h

theorem takeCommand_table (h : TableIs rs s) : TableIs rs (takeCommand s) := by
  unfold takeCommand
  split
  · exact h
  split
  · unfold takeEntry
    split
    · exact completeCommand_table _ _ h
    · exact completeCommand_table _ _ h
    · exact takeOpen_table _ h
  · exact h

theorem actOnFault_table (h : TableIs rs s) : TableIs rs (actOnFault s) := by
  unfold actOnFault
  split
  · dsimp only
    split
    · exact h
    · exact startUndo_table _ h
  · exact h

theorem markEnded_table (ok : Bool) (h : TableIs rs s) : TableIs rs (markEnded ok s) := by
  unfold markEnded
  split
  · exact h
  · dsimp only
    split <;> exact completeCommand_table _ _ h

theorem keepEnded_table (ok : Bool) (h : TableIs rs s) : TableIs rs (keepEnded ok s) := by
  unfold keepEnded
  split
  · split
    · exact completeCommand_table _ _ (table_of_touches (mergeTop_touches s) h)
    · exact completeCommand_table _ _ h
  · exact h

theorem headerConsequence_table (w : HeaderWrite) (ok : Bool) (h : TableIs rs s) :
    TableIs rs (headerConsequence w ok s) := by
  unfold headerConsequence
  split
  · exact markEnded_table ok h
  · exact keepEnded_table ok h
  · exact undoOpeningEnded_table ok h
  · exact retargetEnded_table ok h
  · exact closingEnded_table ok h
  · exact abandonEnded_table ok h
  · exact table_of_touches (syncEnded_touches w ok s) h
  · exact wipeHeaderEnded_table _ ok h
  · exact wipeHeaderEnded_table _ ok h

theorem headerHalfEnded_table (e : Ending) (h : TableIs rs s) : TableIs rs (headerHalfEnded e s) := by
  unfold headerHalfEnded
  split
  · exact h
  split
  · split
    · exact table_of_touches (issueWaitingHeader_touches _) (headerConsequence_table _ _ h)
    · exact table_of_touches (issueSecondHalf_touches _ s) h
  · exact table_of_touches (issueWaitingHeader_touches _) (headerConsequence_table _ _ h)

/-! ## Start-up and the restart -/

theorem beginScan_table (h : TableIs rs s) : TableIs rs (beginScan s) := by
  unfold beginScan
  split
  · exact enterState_table .bypass h
  · exact table_of_touches (Touches_trans (touches_jmg s _) (presentEngine_touches _ _) (cs := [.jmg, .mbp])) h

theorem startReplay_table (x : Header) (h : TableIs rs s) : TableIs rs (startReplay x s) := by
  have entered := enterState_table .recover h
  unfold startReplay
  dsimp only
  split
  · exact walkHead_table entered
  · exact table_of_touches (Touches_trans (Touches_trans (loadUndo_touches _ _ _) (clearHalt_touches _) (cs := [.rpe]))
      (requestOpening_touches _) (cs := [.jmg, .rpe, .mbp])) entered

theorem endSlotScan_table (i : Nat) (last : Option Nat) (x : Header) (h : TableIs rs s) :
    TableIs rs (endSlotScan i last x s) := by
  unfold endSlotScan
  dsimp only
  split
  · exact enterState_table .await h
  · exact startReplay_table x h

theorem examineSlot_table (i : Nat) (last : Option Nat) (x : Header) (h : TableIs rs s) :
    TableIs rs (examineSlot i last x s) := by
  unfold examineSlot
  split
  · exact table_of_touches (Touches_trans (touches_jmg s _) (presentEngine_touches _ _) (cs := [.jmg, .mbp])) h
  · exact endSlotScan_table i last x h

theorem scanSlotReadEnded_table (e : Ending) (h : TableIs rs s) : TableIs rs (scanSlotReadEnded e s) := by
  unfold scanSlotReadEnded
  split
  · split
    · dsimp only
      split
      · exact examineSlot_table _ _ _ h
      · exact endSlotScan_table _ _ _ h
    · exact table_of_touches (presentEngine_touches _ s) h
  · exact h

theorem followHeader_table (x : Header) (h : TableIs rs s) : TableIs rs (followHeader x s) := by
  unfold followHeader
  split
  · exact enterState_table .ready h
  · split
    · exact beginWipe_table h
    · exact examineSlot_table _ _ _ h
  · exact examineSlot_table _ _ _ h
  · exact resumeWipe_table h

theorem selectHeader_table (l : List Byte) (h : TableIs rs s) : TableIs rs (selectHeader l s) := by
  unfold selectHeader
  split
  · exact followHeader_table _ h
  · unfold followNoHeader
    split
    · exact beginWipe_table h
    · exact enterState_table .unformatted h

theorem scanHeaderReadEnded_table (e : Ending) (h : TableIs rs s) : TableIs rs (scanHeaderReadEnded e s) := by
  unfold scanHeaderReadEnded
  split
  · split
    · dsimp only
      split
      · exact table_of_touches (Touches_trans (touches_jmg s _) (presentEngine_touches _ _) (cs := [.jmg, .mbp])) h
      · exact selectHeader_table _ h
    · exact table_of_touches (presentEngine_touches _ s) h
  · exact h

theorem endReset_table (st : Straps) (h : TableIs rs s) : TableIs rs (endReset st s) := by
  unfold endReset
  split
  · exact beginScan_table h
  · exact h

/-- A restart keeps the configuration, the table with it (R94, R127). -/
theorem restartState_table (h : TableIs rs s) : TableIs rs (restartState s) := by
  unfold restartState
  split
  · exact beginScan_table h
  · exact h

/-! ## The memory bus -/

/-- No ending of a memory transaction changes the table, whatever becomes of the levels. -/
theorem endingConsequence_table (p : Purpose) (e : Ending) (h : TableIs rs s) :
    TableIs rs (endingConsequence p e s) := by
  cases p with
  | passThrough => exact passThroughEnded_table e h
  | preImageRead => exact preImageReadEnded_table e h
  | append => exact appendEnded_table e h
  | captureWrite => exact captureWriteEnded_table e h
  | headerHalf => exact headerHalfEnded_table e h
  | scanHeaderRead => exact scanHeaderReadEnded_table e h
  | scanSlotRead => exact scanSlotReadEnded_table e h
  | replaySlotRead => exact replaySlotReadEnded_table e h
  | restore => exact restoreEnded_table e h
  | wipeSlots => exact table_of_touches (wipeSlotWriteEnded_touches e s) h
  | slotLoad => exact table_of_touches (slotLoadEnded_touches e s) h

theorem memoryAnswers_table (p : Purpose) (e : Ending) (h : TableIs rs s) : TableIs rs (memoryAnswers p e s) := by
  unfold memoryAnswers
  split
  · exact endingConsequence_table p e (table_of_touches (endTransaction_touches e s) h)
  · exact h

theorem watchExpires_table (h : TableIs rs s) : TableIs rs (watchExpires s) := by
  unfold watchExpires
  split
  · exact endingConsequence_table _ _ (table_of_touches (endTransaction_touches _ s) h)
  · exact h

theorem watchPeriod_table (h : TableIs rs s) : TableIs rs (watchPeriod s) := by
  unfold watchPeriod
  split
  · exact h
  split
  · exact h
  dsimp only
  split
  · unfold watchReached
    split
    · exact watchExpires_table h
    · exact table_of_touches (endDrain_touches _) h
    · exact table_of_touches (endSettle_touches _) h
    · exact h
  · exact h

/-! ## Register writes -/

theorem immediate_table (c : Bool) (f : State → State) (hf : ∀ u, TableIs rs u → TableIs rs (f u))
    (h : TableIs rs s) : TableIs rs (immediate c f s) := by
  unfold immediate
  split
  · exact hf _ h
  · exact h

theorem issueCommand_table (c : CmdCode) (h : TableIs rs s) : TableIs rs (issueCommand s c) := by
  cases c with
  | mark | keep | undo | undoAll | undoTo => exact table_of_touches (serviceArrival_touches _ s) h
  | resume => exact immediate_table _ _ (fun _ => resumeReplay_table) h
  | skip => exact immediate_table _ _ (fun _ => skipReplay_table) h
  | abandon => exact immediate_table _ _ (fun _ hu => table_of_touches (abandonReplay_touches _) hu) h
  | sync => exact immediate_table _ _ (fun _ hu => table_of_touches (syncHeader_touches _) hu) h
  | format => exact immediate_table _ formatJournal (fun _ hu => beginWipe_table hu) h
  | quiesce => exact immediate_table _ enterDormant (fun _ hu => hu) h
  | restart => exact immediate_table _ beginRestart (fun _ hu => hu) h
  | flush => exact immediate_table _ discardQueue (fun _ hu => hu) h
  | clearCounts => exact immediate_table _ clearCountsEffect (fun _ hu => hu) h
  | popRefusal => exact immediate_table _ popRefusalEffect (fun _ hu => hu) h

/-- A commit with a level open is LOCKED (R116). -/
theorem commitRegion_locked (level : LevelOpen s) : commitRegion s = setRegStat .locked s :=
  if_pos (by simp [commitUnlocked, mt (depth_eq_zero s).mp level])

theorem judged_table (c : Bool) (f : State → State) (h : TableIs rs s) (hf : TableIs rs (f (setStat .ok s))) :
    TableIs rs (judged c f s) := by
  unfold judged
  split
  · exact hf
  · exact h

/-- Of the registers only REGCOMMIT writes the table, and not with a level open. -/
theorem takeValue_table (r : Reg) (v : Nat) (level : LevelOpen s) (h : TableIs rs s) :
    TableIs rs (takeValue r v s) := by
  cases r with
  | cmd =>
    unfold takeValue writeCmd
    dsimp only
    split
    · exact issueCommand_table _ h
    · exact h
  | regcommit =>
    refine judged_table _ _ h ?_
    rw [commitRegion_locked (by exact level)]
    exact h
  | slotload => exact judged_table _ _ h (table_of_touches (writeSlotload_touches _) h)
  | page | highwater | cmdtag | cmdframe | strobecfg | strobetag | ticksel | timercfg | warnat | expireat | memwatch
  | regidx | regclass | regbase | reglimit | slotidx | frameidx | flags | masks | ctrsel =>
    exact judged_table _ _ h h
  | _ => exact h

theorem writeAndAdvance_table (b : Byte) (level : LevelOpen s) (h : TableIs rs s) :
    TableIs rs (writeAndAdvance b s) := by
  suffices written : TableIs rs (writeAtIndex b s) from written
  unfold writeAtIndex
  split
  · exact h
  split
  · exact h
  unfold writeRegByte
  split
  · exact h
  split
  · exact h
  · exact takeValue_table _ _ level h

theorem dataByte_table (b : Byte) (level : LevelOpen s) (h : TableIs rs s) : TableIs rs (dataByte b s) := by
  unfold dataByte
  split
  · split
    · exact startWake_table (s := setAck true s) h
    · exact writeAndAdvance_table b level h
  · exact h

theorem dataByteAt_table (l : List Reg) (b : Byte) (level : LevelOpen s) (h : TableIs rs s) :
    TableIs rs (dataByteAt l b s) := by
  unfold dataByteAt
  split
  · exact dataByte_table b level h
  · exact h

theorem unknownCommandByte_table (b : Byte) (level : LevelOpen s) (h : TableIs rs s) :
    TableIs rs (unknownCommandByte b s) := by
  unfold unknownCommandByte
  split
  · exact dataByteAt_table _ b level h
  · exact h

/-! ## A held byte is written once -/

theorem immediate_stall (c : Bool) (f : State → State) (hf : ∀ u, (f u).svp = u.svp) (s : State) :
    (immediate c f s).svp.stall = s.svp.stall := by
  unfold immediate
  split
  · rw [hf]
    rfl
  · rfl

/-- No command of CMD holds SCL or releases it. -/
theorem issueCommand_stall (c : CmdCode) (s : State) : (issueCommand s c).svp.stall = s.svp.stall := by
  cases c with
  | mark | keep | undo | undoAll | undoTo =>
    unfold issueCommand serviceArrival
    dsimp only
    split <;> rfl
  | resume => exact immediate_stall _ _ (fun u => resumeReplay_touches u .svp (by decide)) s
  | skip => exact immediate_stall _ _ (fun u => skipReplay_touches u .svp (by decide)) s
  | abandon => exact immediate_stall _ _ (fun u => abandonReplay_touches u .svp (by decide)) s
  | sync => exact immediate_stall _ _ (fun u => syncHeader_touches u .svp (by decide)) s
  | format => exact immediate_stall _ _ (fun u => formatJournal_touches u .svp (by decide)) s
  | quiesce => exact immediate_stall _ enterDormant (fun _ => rfl) s
  | restart => exact immediate_stall _ beginRestart (fun _ => rfl) s
  | flush => exact immediate_stall _ discardQueue (fun _ => rfl) s
  | clearCounts => exact immediate_stall _ clearCountsEffect (fun _ => rfl) s
  | popRefusal => exact immediate_stall _ popRefusalEffect (fun _ => rfl) s

theorem judged_noWakeStall (c : Bool) (f : State → State) (h : NoWakeStall s) (hf : NoWakeStall (f (setStat .ok s))) :
    NoWakeStall (judged c f s) := by
  unfold judged
  split
  · exact hf
  · exact h

/-- A register write holds SCL for a load at most, which is no wake (R192, R196). -/
theorem takeValue_noWakeStall (r : Reg) (v : Nat) (h : NoWakeStall s) : NoWakeStall (takeValue r v s) := by
  cases r with
  | cmd =>
    unfold takeValue writeCmd
    dsimp only
    split
    · rw [NoWakeStall, issueCommand_stall]
      exact h
    · exact h
  | regcommit =>
    refine judged_noWakeStall _ _ h ?_
    unfold commitRegion
    dsimp only
    split
    · exact h
    split
    · exact h
    split <;> exact h
  | slotload =>
    refine judged_noWakeStall _ _ h ?_
    unfold writeSlotload
    split
    · simp [NoWakeStall]
    · exact h
  | page | highwater | cmdtag | cmdframe | strobecfg | strobetag | ticksel | timercfg | warnat | expireat | memwatch
  | regidx | regclass | regbase | reglimit | slotidx | frameidx | flags | masks | ctrsel =>
    exact judged_noWakeStall _ _ h h
  | _ => exact h

theorem writeAndAdvance_noWakeStall (b : Byte) (h : NoWakeStall s) : NoWakeStall (writeAndAdvance b s) := by
  suffices written : NoWakeStall (writeAtIndex b s) from written
  unfold writeAtIndex
  split
  · exact h
  split
  · exact h
  unfold writeRegByte
  split
  · exact h
  split
  · exact h
  · exact takeValue_noWakeStall _ _ h

/-! ## What leaves a level open -/

theorem finishCapture_levelOpen (c : Capture) (why : Option Reason) (h : LevelOpen s) :
    LevelOpen (finishCapture c why s) := by
  have inserted : LevelOpen (insertEntries c.level (c.list.take c.appended) s) :=
    levelOpen_of_touches (insertEntries_touches _ _ s) h
  exact levelOpen_of_touches (respond_touches why [] _) inserted

/-- The gate may break frames, and closes none (R44). -/
theorem checkCapture_levelOpen (c : Capture) (h : LevelOpen s) : LevelOpen (checkCapture c s) := by
  unfold checkCapture
  dsimp only
  split
  · exact h
  split
  · exact finishCapture_levelOpen c _ h
  split
  · exact finishCapture_levelOpen c _ h
  split
  · exact h
  split
  · exact finishCapture_levelOpen c _ h
  · exact h.map _ rfl

theorem tryGate_levelOpen (h : LevelOpen s) : LevelOpen (tryGate s) := by
  unfold tryGate
  split
  · split
    · unfold enterGate
      dsimp only
      split
      · exact levelOpen_of_touches (passThrough_touches _ _) h
      · exact checkCapture_levelOpen _ h
    · exact h
  · exact h

theorem strobeArrival_levelOpen (k : QueueKind) (h : LevelOpen s) : LevelOpen (strobeArrival k s) := by
  unfold strobeArrival
  split <;> exact h

theorem arriveAll_levelOpen (es : List WakeEntry) (h : LevelOpen s) : LevelOpen (arriveAll es s) := by
  induction es generalizing s with
  | nil => exact h
  | cons e es ih => exact ih (strobeArrival_levelOpen _ h)

theorem takeFault_levelOpen (h : LevelOpen s) : LevelOpen (takeFault s) := by
  unfold takeFault
  dsimp only
  split
  · exact h
  split
  · exact h
  · exact h
  · exact levelOpen_of_touches (retargetUndo_touches _) h

theorem owedArrival_levelOpen (fresh : List Nat) (i : Nat) (h : LevelOpen s) : LevelOpen (owedArrival fresh i s) := by
  unfold owedArrival
  split
  · exact h
  split
  · unfold timerArrival
    split <;> exact h
  split
  · exact h
  split <;> exact h

theorem owedArrivals_levelOpen (fresh is : List Nat) (h : LevelOpen s) : LevelOpen (owedArrivals fresh is s) := by
  induction is generalizing s with
  | nil => exact h
  | cons i is ih => exact ih (owedArrival_levelOpen fresh i h)

theorem ageFrames_levelOpen (h : LevelOpen s) : LevelOpen (ageFrames s) :=
  levelOpen_of_touches (raiseIf_touches _ .expire _)
    (levelOpen_of_touches (raiseIf_touches _ .warn _) (h.map (Frame.ticked s.atu) rfl))

/-- A tick ages frames and closes none (R150). -/
theorem takeTick_levelOpen (h : LevelOpen s) : LevelOpen (takeTick s) := by
  unfold takeTick
  split
  · unfold tickEffect
    split
    · exact h.map Frame.aged rfl
    · exact owedArrivals_levelOpen _ _ (ageFrames_levelOpen h)
  · exact h

theorem timebasePeriod_levelOpen (h : LevelOpen s) : LevelOpen (timebasePeriod s) := by
  unfold timebasePeriod
  split
  · exact h
  split
  · exact h
  split
  · exact h
  · exact takeTick_levelOpen h

/-! ## The wake -/

/-- The table stands as `rs`, and no byte that a wake holds can still reach it: a level is open, or none is held. -/
def Guarded (rs : Vector Region 12) (s : State) : Prop := TableIs rs s ∧ (LevelOpen s ∨ NoWakeStall s)

/-- An event of the wake that leaves the table, an open level and the Service Port keeps the table guarded. -/
theorem Guarded.of_kept (h : Guarded rs s) (table : TableIs rs s → TableIs rs t) (level : LevelOpen s → LevelOpen t)
    (svp : t.svp = s.svp) : Guarded rs t := by
  obtain ⟨is, guard⟩ := h
  refine ⟨table is, guard.imp level fun stall => ?_⟩
  rw [NoWakeStall, svp]
  exact stall

theorem handleWakeEvent_guarded (w : WakeEvent) (h : Guarded rs s) : Guarded rs (handleWakeEvent w s) := by
  cases w with
  | host =>
    exact h.of_kept (fun table => tryGate_table (rejudge_table table))
      (fun level => tryGate_levelOpen (levelOpen_of_touches (rejudge_touches s) level)) host_svp
  | strobes =>
    exact h.of_kept (fun table => table_of_touches (arriveWakeList_touches s) table)
      (fun level => arriveAll_levelOpen _ level) strobes_svp
  | fault =>
    refine h.of_kept (fun table => table_of_touches (takeWakeFault_touches s) table) (fun level => ?_) fault_svp
    unfold handleWakeEvent takeWakeFault
    dsimp only
    split
    · exact takeFault_levelOpen level
    · exact level
  | service =>
    obtain ⟨table, level | idle⟩ := h
    · unfold handleWakeEvent releaseWakeStall
      dsimp only
      split
      · exact ⟨table, .inl level⟩
      · exact ⟨writeAndAdvance_table _ level table, .inr (writeAndAdvance_noWakeStall _ (noWakeStall_of_none rfl))⟩
      · exact ⟨table, .inl level⟩
    · rw [service_idle idle]
      exact ⟨table, .inr idle⟩

theorem handleWakeEvents_guarded (ws : List WakeEvent) (h : Guarded rs s) : Guarded rs (handleWakeEvents ws s) := by
  induction ws generalizing s with
  | nil => exact h
  | cons w ws ih => exact ih (handleWakeEvent_guarded w h)

/-- In whatever order the wake hands on what it held, a byte for REGCOMMIT meets the stack as it was (R109, R116). -/
theorem endWake_table (order : List WakeEvent) (level : LevelOpen s) (h : TableIs rs s) :
    TableIs rs (endWake order s) := by
  unfold endWake
  split
  · have guarded : Guarded rs (wokenOf s) := ⟨h, .inl level⟩
    exact (handleWakeEvents_guarded _ guarded).1
  · exact h

theorem wakePeriod_table (level : LevelOpen s) (h : TableIs rs s) : TableIs rs (wakePeriod s) := by
  unfold wakePeriod
  split
  · exact h
  split
  · exact h
  · exact endWake_table [] level h

/-! ## Every command and every step -/

/-- With a level open every command but the resets leaves the table as it is. -/
theorem exec_table (i : Instr) (por : i ≠ .por) (rstn : i ≠ .rstn) (level : LevelOpen s) (h : TableIs rs s) :
    ∃ u, exec i s = .next u ∧ TableIs rs u := by
  cases i with
  | por | rstn => contradiction
  | resetEnd straps => exact ⟨_, rfl, endReset_table straps h⟩
  | settleEnd => exact ⟨_, rfl, table_of_touches (endSettle_touches s) h⟩
  | hostRequest txn => exact ⟨_, rfl, presentTxn_table txn h⟩
  | wakeEnd order => exact ⟨_, rfl, endWake_table order level h⟩
  | gateEntry => exact ⟨_, rfl, tryGate_table h⟩
  | preImageReadEnd e | passThroughEnd e | replaySlotReadEnd e | scanHeaderReadEnd e | scanSlotReadEnd e
  | slotLoadEnd e | appendEnd e | captureWriteEnd e | headerHalfWriteEnd e | restoreEnd e | wipeSlotWriteEnd e =>
    exact ⟨_, rfl, memoryAnswers_table _ _ h⟩
  | arbiterGrant => exact ⟨_, rfl, table_of_touches (grant_touches s) h⟩
  | memoryWatchTimeout => exact ⟨_, rfl, watchExpires_table h⟩
  | drainEnd => exact ⟨_, rfl, table_of_touches (endDrain_touches s) h⟩
  | lateResponse => exact ⟨_, rfl, table_of_touches (lateAnswer_touches s) h⟩
  | strobeEdge line edge => exact ⟨_, rfl, table_of_touches (seeStrobe_touches line edge s) h⟩
  | faultEvent edge => exact ⟨_, rfl, table_of_touches (seeFault_touches edge s) h⟩
  | faultRequestActed => exact ⟨_, rfl, actOnFault_table h⟩
  | commandTake => exact ⟨_, rfl, takeCommand_table h⟩
  | tick => exact ⟨_, rfl, table_of_touches (takeTick_touches s) h⟩
  | restartEffect => exact ⟨_, rfl, restartState_table h⟩
  | unknownCommand code => exact ⟨_, rfl, unknownCommandByte_table code level h⟩
  | svcAddressMatch addr dir => exact ⟨_, rfl, table_of_touches (addressByte_touches addr dir s) h⟩
  | svcIndexByte index => exact ⟨_, rfl, table_of_touches (indexByte_touches index s) h⟩
  | svcStop => exact ⟨_, rfl, table_of_touches (stopCondition_touches s) h⟩
  | registerWrite data => exact ⟨_, rfl, dataByte_table data level h⟩
  | readSegmentByte ack => exact ⟨_, rfl, table_of_touches (readByte_touches ack s) h⟩
  | _ => exact ⟨_, rfl, dataByteAt_table _ _ level h⟩

/-- A REFCLK period ends the wake before the memory watch can close the last level (log 26). -/
theorem refclkPeriod_table (level : LevelOpen s) (h : TableIs rs s) : TableIs rs (refclkPeriod s) :=
  watchPeriod_table (wakePeriod_table (timebasePeriod_levelOpen level) (table_of_touches (timebasePeriod_touches s) h))

theorem unknownCommandByte_straps (b : Byte) (s : State) : (unknownCommandByte b s).straps = s.straps := by
  unfold unknownCommandByte
  split
  · exact dataByteAt_touches _ b s .straps (by decide)
  · rfl

/-- Every command but RESET_END leaves the straps as they are. -/
theorem exec_straps (i : Instr) (running : ∀ st, i ≠ .resetEnd st) (s : State) :
    ∃ u, exec i s = .next u ∧ u.straps = s.straps := by
  cases i with
  | resetEnd straps => exact absurd rfl (running straps)
  | por | rstn => exact ⟨_, rfl, rfl⟩
  | settleEnd => exact ⟨_, rfl, endSettle_touches s .straps (by decide)⟩
  | hostRequest txn => exact ⟨_, rfl, presentTxn_touches txn s .straps (by decide)⟩
  | wakeEnd order => exact ⟨_, rfl, endWake_touches order s .straps (by decide)⟩
  | gateEntry => exact ⟨_, rfl, tryGate_touches s .straps (by decide)⟩
  | preImageReadEnd e | passThroughEnd e | replaySlotReadEnd e | scanHeaderReadEnd e | scanSlotReadEnd e
  | slotLoadEnd e | appendEnd e | captureWriteEnd e | headerHalfWriteEnd e | restoreEnd e | wipeSlotWriteEnd e =>
    exact ⟨_, rfl, memoryAnswers_touches _ _ s .straps (by decide)⟩
  | arbiterGrant => exact ⟨_, rfl, grant_touches s .straps (by decide)⟩
  | memoryWatchTimeout => exact ⟨_, rfl, watchExpires_touches s .straps (by decide)⟩
  | drainEnd => exact ⟨_, rfl, endDrain_touches s .straps (by decide)⟩
  | lateResponse => exact ⟨_, rfl, lateAnswer_touches s .straps (by decide)⟩
  | strobeEdge line edge => exact ⟨_, rfl, seeStrobe_touches line edge s .straps (by decide)⟩
  | faultEvent edge => exact ⟨_, rfl, seeFault_touches edge s .straps (by decide)⟩
  | faultRequestActed => exact ⟨_, rfl, actOnFault_touches s .straps (by decide)⟩
  | commandTake => exact ⟨_, rfl, takeCommand_touches s .straps (by decide)⟩
  | tick => exact ⟨_, rfl, takeTick_touches s .straps (by decide)⟩
  | restartEffect =>
    refine ⟨_, rfl, ?_⟩
    unfold restartState
    split
    · exact beginScan_touches _ .straps (by decide)
    · rfl
  | unknownCommand code => exact ⟨_, rfl, unknownCommandByte_straps code s⟩
  | svcAddressMatch addr dir => exact ⟨_, rfl, addressByte_touches addr dir s .straps (by decide)⟩
  | svcIndexByte index => exact ⟨_, rfl, indexByte_touches index s .straps (by decide)⟩
  | svcStop => exact ⟨_, rfl, stopCondition_touches s .straps (by decide)⟩
  | registerWrite data => exact ⟨_, rfl, dataByte_touches data s .straps (by decide)⟩
  | readSegmentByte ack => exact ⟨_, rfl, readByte_touches ack s .straps (by decide)⟩
  | _ => exact ⟨_, rfl, dataByteAt_touches _ _ s .straps (by decide)⟩

/-- Settles O60: a command leaves the table by `exec_table` and the straps by `exec_straps`, a REFCLK period by
`refclkPeriod_table` and `refclkPeriod_touches`. -/
theorem regionsAndStrapsStandStill : Obligations.RegionsAndStrapsStandStill := by
  intro s t taken
  unfold step at taken
  split at taken
  · obtain rfl : refclkPeriod s = t := by simpa using taken
    exact ⟨fun level changed => absurd (refclkPeriod_table level rfl) changed,
      fun changed => absurd (refclkPeriod_touches s .straps (by decide)) changed⟩
  · rename_i c rest waiting
    have first : s.pending.head? = some c := by rw [waiting]; rfl
    refine ⟨fun level changed => ?_, fun changed => ?_⟩
    · by_contra others
      obtain ⟨por, rstn⟩ : c ≠ .por ∧ c ≠ .rstn := by simpa [first] using others
      obtain ⟨u, goesOn, table⟩ := exec_table (s := { s with pending := rest }) c por rstn level rfl
      obtain rfl : u = t := by simpa [goesOn] using taken
      exact changed table
    · by_contra others
      obtain ⟨u, goesOn, straps⟩ := exec_straps c (by simpa [first] using others) { s with pending := rest }
      obtain rfl : u = t := by simpa [goesOn] using taken
      exact changed straps

end Sys2Proof.RegionTable
end

section
/-! PROOF. The immediate commands FLUSH, POP_REFUSAL, RESTART and QUIESCE (R94, R107, R126, R137, R190). -/

namespace Sys2Proof.ImmediateCommands

set_option Elab.async false

open Sys2Proof.Machine Sys2Proof.Safety Sys2Proof.Laws
open Sys2Proof.ServiceWrites (commandByte_accepted quiesceAllowed_iff)

/-- RESTART becomes pending, and the request that ENGINE has waiting stays only as half of a header write (R94,
R162). -/
theorem beginRestart_eq (s : State) :
    beginRestart s =
      { s with
        ckc := { s.ckc with restartPending := true }
        mbp :=
          { s.mbp with
            waitEngine :=
              match s.mbp.waitEngine with
              | some r => if r.purpose = .headerHalf then some r else none
              | none => none } } := by
  unfold beginRestart
  cases s.mbp.waitEngine with
  | none => rfl
  | some r => simp [Option.filter_some]

/-- Settles O43: each command is accepted by `commandByte_accepted`, QUIESCE under `quiesceAllowed_iff`. -/
theorem immediateCommandsTakeEffect : Obligations.ImmediateCommandsTakeEffect := by
  intro s h svp
  refine ⟨congrArg _ (commandByte_accepted (c := .flush) h (fun _ => rfl) rfl), fun r rest list => ?_, ?_,
    fun ready queue service fault current write waiting load pending => ?_⟩
  · refine congrArg _ ((commandByte_accepted (c := .popRefusal) h (fun _ => rfl) (by simp [list])).trans ?_)
    rw [popRefusalEffect, list]
    rfl
  · refine congrArg _ ((commandByte_accepted (c := .restart) h (fun _ => rfl) rfl).trans ?_)
    rw [beginRestart_eq]
    rfl
  · exact congrArg _ (commandByte_accepted (c := .quiesce) h (fun _ => rfl)
      ((quiesceAllowed_iff s).mpr ⟨ready, queue, service, fault, current, write, waiting, load, pending⟩))

end Sys2Proof.ImmediateCommands
end

section
/-! PROOF. POR and RSTN, and the part while one of them holds it (R93, R110, R127, R130, R139, R184). -/

namespace Sys2Proof.ResetHold

set_option Elab.async false

open Sys2Proof.Machine Sys2Proof.Safety Sys2Proof.Laws
open Sys2Proof.Checkpoint (gateOpen_iff tryGate_of_not takeCommand_of_not)
open Sys2Proof.HostJudgement (presented hostRequest_presents rejudge_keeps_untaken)

section
variable {s : State} (held : s.resetHeld = true)
include held

theorem busHeard_of_held : busHeard s = false := by simp [busHeard, held]

theorem seeStrobe_of_held (line : StrobeLine) (edge : Edge) : seeStrobe line edge s = s := if_pos (by simp [held])

theorem seeFault_of_held (edge : Edge) : seeFault edge s = s := if_pos (by simp [held])

theorem addressByte_of_held (a : BitVec 7) (d : Dir) : addressByte a d s = s := if_pos (by simp [busHeard_of_held held])

theorem indexByte_of_held (b : Byte) : indexByte b s = s := if_neg (by simp [busHeard_of_held held])

theorem stopCondition_of_held : stopCondition s = s := if_neg (by simp [busHeard_of_held held])

theorem dataByte_of_held (b : Byte) : dataByte b s = s := if_neg (by simp [busHeard_of_held held])

theorem readByte_of_held (ack : Bool) : readByte ack s = s := if_neg (by simp [busHeard_of_held held])

theorem takeCommand_of_held : takeCommand s = s := takeCommand_of_not s (.inr (by simp [canTakeCommand, held]))

theorem actOnFault_of_held : actOnFault s = s := if_neg (by simp [canActOnFault, held])

theorem tryGate_of_held : tryGate s = s :=
  tryGate_of_not s (.inl (Bool.eq_false_iff.mpr fun opened => by simp [gateOpen_iff, held] at opened))

theorem grant_of_held : grant s = s := if_neg (by simp [held])

theorem endSettle_of_held : endSettle s = s := if_neg (by simp [held])

theorem takeTick_of_held : takeTick s = s := if_neg (by simp [timebaseRuns, held])

/-- A transaction presented meanwhile is UNTAKEN, and wakes nothing (R110). -/
theorem hostRequest_of_held (t : HostTxn) (none_ : s.hbp.current = none) :
    exec (.hostRequest t) s = .next (presented t s) := by
  rw [hostRequest_presents none_, if_neg (by simp [held]),
    rejudge_keeps_untaken (s := presented t s) (c := ⟨t, .untaken, .pass, .refuse⟩) rfl rfl
      (.inr (.inr (.inr (.inr held))))]

end

/-- Settles O4: the resets are `takeReset`, and each event that the hold keeps out leaves the state by its own lemma. -/
theorem porAndRstnHoldThePart : Obligations.PorAndRstnHoldThePart := by
  refine ⟨fun i s reset => ?_, fun s held => ⟨fun line edge a d b ack => ?_, fun t => hostRequest_of_held held t⟩⟩
  · obtain rfl | rfl := reset <;> rfl
  · exact ⟨congrArg _ (seeStrobe_of_held held line edge), congrArg _ (seeFault_of_held held edge),
      congrArg _ (addressByte_of_held held a d), congrArg _ (indexByte_of_held held b),
      congrArg _ (stopCondition_of_held held), congrArg _ (dataByte_of_held held b),
      congrArg _ (readByte_of_held held ack), congrArg _ (takeCommand_of_held held),
      congrArg _ (actOnFault_of_held held), congrArg _ (tryGate_of_held held), congrArg _ (grant_of_held held),
      congrArg _ (endSettle_of_held held), congrArg _ (takeTick_of_held held)⟩

end Sys2Proof.ResetHold
end

section
/-! PROOF. What HBP makes of a transaction that it takes: the checks, the refusal and its record, the region lookup, and
the table of dispositions (R111, R112, R114, R118, R125). -/

namespace Sys2Proof.HostTraffic

set_option Elab.async false

open Sys2Proof.Machine Sys2Proof.Safety Sys2Proof.Laws
open Sys2Proof.WakeEnd (takeTxn_failed)
open Sys2Proof.HostJudgement (presented waiting inMemory fated takeTxn_full hostRequest_takes)

variable {s : State} {t : HostTxn}

/-! ## The checks and the refusal -/

/-- A check that fails refuses a transaction taken at once (R112). -/
theorem hostRequest_refused (takes : TakesAtOnce s) {why : Reason} (fails : firstFailedCheck s t = some why) :
    exec (.hostRequest t) s = .next (refuseTxn t why s) := by
  rw [hostRequest_takes takes, takeTxn_failed (s := presented t s) why fails, presented, refuseTxn_of_current]

section
variable (aligned : t.addr.toNat % 4 = 0)

theorem check_misaligned (odd : t.addr.toNat % 4 ≠ 0) : firstFailedCheck s t = some .misaligned := if_pos odd

include aligned

theorem check_crossing (crosses : t.addr.toNat % 32 + 4 * Len.cells t.len > 32) :
    firstFailedCheck s t = some .crossing :=
  (if_neg (not_not.mpr aligned)).trans (if_pos crosses)

variable (within : t.addr.toNat % 32 + 4 * Len.cells t.len ≤ 32)
include within

theorem check_outOfArray (outside : arraySize s.straps ≤ t.addr.toNat) : firstFailedCheck s t = some .outOfArray :=
  (if_neg (not_not.mpr aligned)).trans ((if_neg (Nat.not_lt.mpr within)).trans (if_pos outside))

theorem check_journalArea (inside : t.addr.toNat < arraySize s.straps) (journal : journalBase s.straps ≤ t.addr.toNat)
    (state : s.ckc.state ≠ .bypass) : firstFailedCheck s t = some .journalArea :=
  (if_neg (not_not.mpr aligned)).trans
    ((if_neg (Nat.not_lt.mpr within)).trans ((if_neg (Nat.not_le.mpr inside)).trans (if_pos ⟨journal, state⟩)))

end

/-- A refusal enters the list at its tail, or is counted when the list is full, under the next number (R125). -/
theorem enterRefusal_eq (r : Refused) (h : Hbp) :
    enterRefusal r h =
      { h with
        lastRefusal := r.number
        refusals := if h.refusals.length < 8 then h.refusals ++ [r] else h.refusals
        overflow :=
          if h.refusals.length < 8 then h.overflow else if h.overflow < 255 then h.overflow + 1 else h.overflow } := by
  by_cases room : h.refusals.length < 8
  · simp [enterRefusal, Config.refusalListCapacity, room]
  · simp only [enterRefusal, Config.refusalListCapacity, room, if_false]
    rfl

/-- Settles O7: each check by its own lemma and `hostRequest_refused`, the record by `enterRefusal_eq`. -/
theorem failedChecksRefuseAndAreRecorded : Obligations.FailedChecksRefuseAndAreRecorded := by
  refine ⟨fun s t takes => ⟨fun odd => ?_, fun aligned crosses => ?_, fun aligned within outside => ?_,
    fun aligned within inside journal state => ?_⟩, fun t why s => ?_⟩
  · exact hostRequest_refused takes (check_misaligned odd)
  · exact hostRequest_refused takes (check_crossing aligned crosses)
  · exact hostRequest_refused takes (check_outOfArray aligned within outside)
  · exact hostRequest_refused takes (check_journalArea aligned within inside journal state)
  · rw [refuseTxn, enterRefusal_eq]
    rfl

/-! ## The region lookup -/

theorem covers_iff (r : Region) (a : Addr) :
    Region.covers r a = true ↔ r.valid = true ∧ r.base.toNat ≤ a.toNat ∧ a.toNat < r.limit.toNat := by
  simp [Region.covers, and_assoc]

/-- Settles O8: the table is searched from descriptor 0 upward. -/
theorem lookupTakesLowestNumberedDescriptor : Obligations.LookupTakesLowestNumberedDescriptor := by
  intro regions a holds
  refine ⟨fun i covers lower => ?_, fun uncovered => ?_⟩
  · have found : regions.toList.find? (fun r => Region.covers r a) = some regions[i] := by
      refine List.find?_eq_some_iff_getElem.mpr ⟨(covers_iff _ a).mpr covers, i, by simp, by simp, fun j below => ?_⟩
      have none_ := lower ⟨j, below.trans i.isLt⟩ below
      simpa using mt (covers_iff _ a).mp none_
    rw [lookupRegion, found]
  · have none_ : regions.toList.find? (fun r => Region.covers r a) = none := by
      refine List.find?_eq_none.mpr fun r mem covers => ?_
      obtain ⟨i, inside, rfl⟩ := List.getElem_of_mem mem
      exact uncovered ⟨i, by simpa using inside⟩ ((covers_iff _ a).mp (by simpa using covers))
    rw [lookupRegion, none_]

/-! ## The cells of a checked burst -/

/-- The cells from an address that does not run past the top of the address space (R112). -/
theorem toNat_of_mem_cellsFrom {a x : Addr} {n : Nat} (fits : a.toNat + 4 * n ≤ 2 ^ 24) (mem : x ∈ cellsFrom a n) :
    ∃ k < n, x.toNat = a.toNat + 4 * k := by
  induction n generalizing a with
  | zero => simp [cellsFrom] at mem
  | succ n ih =>
    obtain rfl | rest := List.mem_cons.mp mem
    · exact ⟨0, by omega, rfl⟩
    · cases n with
      | zero => simp [cellsFrom] at rest
      | succ n =>
        have next : (a + 4).toNat = a.toNat + 4 := by
          rw [BitVec.toNat_add]
          exact Nat.mod_eq_of_lt (by simp; omega)
        obtain ⟨k, small, is⟩ := ih (by omega) rest
        exact ⟨k + 1, by omega, by omega⟩

/-- A cell of a burst that crosses no 32-byte boundary lies in the block of the burst's address (R112). -/
theorem cell_in_block (within : t.addr.toNat % 32 + 4 * Len.cells t.len ≤ 32) {a : Addr} (mem : a ∈ cellsOf t) :
    t.addr.toNat ≤ a.toNat ∧ a.toNat + 4 ≤ 32 * (t.addr.toNat / 32) + 32 := by
  have bound := t.addr.isLt
  obtain ⟨k, small, is⟩ := toNat_of_mem_cellsFrom (by omega) mem
  omega

/-- A descriptor on 64-byte boundaries holds the whole of a 32-byte block or nothing of it (R114). -/
theorem covers_same_block {r : Region} {a b : Addr}
    (bounds : r.valid = true → r.base.toNat % 64 = 0 ∧ r.limit.toNat % 64 = 0)
    (block : a.toNat / 32 = b.toNat / 32) : Region.covers r a = Region.covers r b := by
  rw [Bool.eq_iff_iff, covers_iff, covers_iff]
  refine and_congr_right fun valid => ?_
  obtain ⟨base, limit⟩ := bounds valid
  omega

theorem lookup_same_block {regions : Vector Region 12} {a b : Addr}
    (bounds : ∀ i : Fin 12, regions[i].valid = true → regions[i].base.toNat % 64 = 0 ∧ regions[i].limit.toNat % 64 = 0)
    (block : a.toNat / 32 = b.toNat / 32) : lookupRegion regions a = lookupRegion regions b := by
  have same : regions.toList.find? (fun r => Region.covers r a) = regions.toList.find? fun r => Region.covers r b := by
    refine List.find?_congr fun r mem => ?_
    obtain ⟨i, inside, rfl⟩ := List.getElem_of_mem mem
    exact covers_same_block (by simpa using bounds ⟨i, by simpa using inside⟩) block
  rw [lookupRegion, same]
  rfl

theorem firstFailedCheck_eq_none_iff :
    firstFailedCheck s t = none ↔
      t.addr.toNat % 4 = 0 ∧ t.addr.toNat % 32 + 4 * Len.cells t.len ≤ 32 ∧ t.addr.toNat < arraySize s.straps
        ∧ (s.ckc.state ≠ .bypass → t.addr.toNat < journalBase s.straps) := by
  have outside : (s.ckc.state ≠ .bypass → t.addr.toNat < journalBase s.straps) ↔
      ¬ (journalBase s.straps ≤ t.addr.toNat ∧ s.ckc.state ≠ .bypass) := by rw [not_and', Nat.not_le]
  rw [outside, firstFailedCheck]
  split_ifs <;> simp_all

/-- The array and the journal area begin and end on 32-byte boundaries (R49). -/
theorem placement_mod (st : Straps) : arraySize st % 32 = 0 ∧ journalBase st % 32 = 0 := by
  unfold journalBase arraySize journalLength
  split_ifs <;> split <;> decide

/-- Settles O9: every cell of the burst lies in one 32-byte block, which no boundary of R49 or R114 divides. -/
theorem checkedBurstHasOneClassAndPlace : Obligations.CheckedBurstHasOneClassAndPlace := by
  refine ⟨fun regions t bounds aligned within a mem => ?_, fun s t passes a mem => ?_⟩
  · have inside := cell_in_block within mem
    exact lookup_same_block bounds (by omega)
  · obtain ⟨-, within, array, journal⟩ := firstFailedCheck_eq_none_iff.mp passes
    have inside := cell_in_block within mem
    have boundaries := placement_mod s.straps
    exact ⟨by omega, fun state => by have := journal state; omega⟩

/-! ## The table of dispositions -/

/-- A refusal that the columns of R118 give does not depend on the transaction just presented. -/
theorem fated_presented (c : Current) (fate : JournaledFate) :
    fated c (presented t s) fate =
      match fate with
      | .refuse why => refuseTxn c.txn why s
      | lets => fated c (presented t s) lets := by
  cases fate with
  | pass | hold | gate => rfl
  | refuse why => exact refuseTxn_of_current c.txn why s _ _

/-- Settles O10: the transaction is taken by `takeTxn_full`, and a JOURNALED one follows the columns of R118. -/
theorem hostRequestFollowsTheDispositionTable : Obligations.HostRequestFollowsTheDispositionTable := by
  intro s t takes passes full r wait pass
  have refused (why : Reason) : refuseTxn t why (presented t s) = refuseTxn t why s := refuseTxn_of_current t why s _ _
  rw [hostRequest_takes takes]
  obtain ⟨-, -, pending, scan, recover, dormant⟩ := takes
  obtain ⟨held, is⟩ : ∃ held : Current, held = ⟨t, .held, r.1, r.2⟩ := ⟨_, rfl⟩
  have passed : inMemory held (presented t s) = pass := by rw [is]; rfl
  have class_ : held.cls = r.1 := by rw [is]
  have frames : (presented t s).ckc.frames = s.ckc.frames := rfl
  rw [takeTxn_full (s := presented t s) passes full pending held is, passed, class_, refused, refused, frames]
  cases r.1 with
  | pass => cases t.dir <;> rfl
  | barred => cases t.dir <;> rfl
  | steady => cases t.dir <;> by_cases empty : s.ckc.frames = [] <;> simp [empty]
  | journaled =>
    have state : (presented t s).ckc.state = s.ckc.state := rfl
    rw [fated_presented, is, state]
    cases ctrl : s.ckc.state with
    | scan | recover | dormant => contradiction
    | _ => cases t.dir <;> rfl

end Sys2Proof.HostTraffic
end

section
/-! PROOF. The region staging and REGCOMMIT (R114, R116, R187, R191). -/

namespace Sys2Proof.RegionCommit

set_option Elab.async false

open Sys2Proof.Machine Sys2Proof.Safety Sys2Proof.Laws

variable {s : State} {b : Byte}

/-! ## Bytes and words -/

/-- Byte `k` of a number is its part from bit `8 * k` upward (00_scope.md, Byte order). -/
theorem littleEndian_eq_map (n v : Nat) :
    littleEndian n v = (List.range n).map fun k => (BitVec.ofNat 8 (v / 256 ^ k) : Byte) := by
  induction n generalizing v with
  | zero => rfl
  | succ n ih =>
    rw [littleEndian, ih, List.range_succ_eq_map, List.map_cons, List.map_map, pow_zero, Nat.div_one]
    refine congrArg _ (List.map_congr_left fun k _ => ?_)
    rw [Nat.div_div_eq_div_mul, Function.comp_apply, pow_succ, Nat.mul_comm]

theorem littleEndian_getD {w n k : Nat} (x : BitVec w) (inside : k < n) :
    (littleEndian n x.toNat).getD k 0 = x.extractLsb' (8 * k) 8 := by
  have shift : x.toNat / 256 ^ k = x.toNat >>> (8 * k) := by rw [Nat.shiftRight_eq_div_pow, Nat.pow_mul]
  rw [littleEndian_eq_map, List.getD_eq_getElem?_getD, List.getElem?_map, List.getElem?_range inside]
  exact congrArg (BitVec.ofNat 8) shift

theorem toNat_append_byte {w : Nat} (x : BitVec w) (low : Byte) : (x ++ low).toNat = low.toNat + 256 * x.toNat := by
  rw [BitVec.toNat_append, ← Nat.shiftLeft_add_eq_or_of_lt low.isLt, Nat.shiftLeft_eq]
  omega

/-! ## The staging -/

/-- A byte of a value in the making: the one staged, or where none is, the one given (R187). -/
def ByteOf (s : State) (r : Reg) (k : Nat) (v present : Byte) : Prop :=
  (s.svp.staging.find? fun q => q.reg = r && q.offset = k) = some ⟨r, k, v⟩
    ∨ (s.svp.staging.find? fun q => q.reg = r && q.offset = k) = none ∧ v = present

/-- The byte that a value in the making takes, where the bytes kept are those of a word (R187). -/
theorem byte_forming {r : Reg} {w n k : Nat} {v : Byte} (x : BitVec w)
    (kept : keptBytes (setAck true s) r = littleEndian n x.toNat) (inside : k < n)
    (low : ByteOf s r k v (x.extractLsb' (8 * k) 8)) :
    (stagedAt r k (setAck true s).svp.staging).getD ((keptBytes (setAck true s) r).getD k 0) = v :=
  staged_or_kept r k v _ (setAck true s) low (by rw [kept, littleEndian_getD x inside])

/-- The highest byte of REGBASE forms the base from the bytes staged and those that the staging holds (R187, R191). -/
theorem formedValue_regbase {b0 b1 : Byte} (low0 : ByteOf s .regbase 0 b0 (s.svp.regionStaging.base.extractLsb' 0 8))
    (low1 : ByteOf s .regbase 1 b1 (s.svp.regionStaging.base.extractLsb' 8 8)) :
    formedValue .regbase 3 b (setAck true s) = (b ++ b1 ++ b0).toNat := by
  have is0 := byte_forming (n := 3) _ rfl (by decide) low0
  have is1 := byte_forming (n := 3) _ rfl (by decide) low1
  rw [toNat_append_byte, toNat_append_byte, ← is0, ← is1]
  rfl

/-- The highest byte of REGLIMIT forms the limit likewise (R187, R191). -/
theorem formedValue_reglimit {b0 b1 b2 : Byte}
    (low0 : ByteOf s .reglimit 0 b0 (s.svp.regionStaging.limit.extractLsb' 0 8))
    (low1 : ByteOf s .reglimit 1 b1 (s.svp.regionStaging.limit.extractLsb' 8 8))
    (low2 : ByteOf s .reglimit 2 b2 (s.svp.regionStaging.limit.extractLsb' 16 8)) :
    formedValue .reglimit 4 b (setAck true s) = (b ++ b2 ++ b1 ++ b0).toNat := by
  have is0 := byte_forming (n := 4) _ rfl (by decide) low0
  have is1 := byte_forming (n := 4) _ rfl (by decide) low1
  have is2 := byte_forming (n := 4) _ rfl (by decide) low2
  rw [toNat_append_byte, toNat_append_byte, toNat_append_byte, ← is0, ← is1, ← is2]
  rfl

/-- The staging registers take their bytes under REGION_STAGING_WRITE (R191). -/
abbrev stagingRegs : List Reg := [.regclass, .regbase, .reglimit]

theorem regclass_staged (h : WritesAt 2 0x02 s) :
    dataByteAt stagingRegs b s =
      { s with
        svp :=
          { afterWrite .regclass .ok s.svp with
            regionStaging :=
              { s.svp.regionStaging with
                valid := b.getLsbD 0
                cls := RegionClass.ofCode (b.toNat / 2)
                policy := if b.getLsbD 3 = true then .breach else .refuse } } } :=
  dataByteAt_one (q := some 2) s b 2 0x02 stagingRegs .regclass h rfl rfl rfl

theorem regbase_staged {b0 b1 : Byte} (h : WritesAt 2 0x05 s)
    (low0 : ByteOf s .regbase 0 b0 (s.svp.regionStaging.base.extractLsb' 0 8))
    (low1 : ByteOf s .regbase 1 b1 (s.svp.regionStaging.base.extractLsb' 8 8)) :
    dataByteAt stagingRegs b s =
      { s with
        svp :=
          { afterWrite .regbase .ok s.svp with
            regionStaging := { s.svp.regionStaging with base := b ++ b1 ++ b0 } } } := by
  have word : BitVec.ofNat 24 (b ++ b1 ++ b0).toNat = b ++ b1 ++ b0 := by rw [BitVec.ofNat_toNat, BitVec.setWidth_eq]
  rw [dataByteAt_highest (q := some 2) s b 2 0x05 stagingRegs .regbase 3 3 h rfl (by decide) rfl rfl rfl,
    formedValue_regbase low0 low1]
  nth_rw 2 [← word]
  rfl

theorem reglimit_staged {b0 b1 b2 : Byte} (h : WritesAt 2 0x09 s)
    (low0 : ByteOf s .reglimit 0 b0 (s.svp.regionStaging.limit.extractLsb' 0 8))
    (low1 : ByteOf s .reglimit 1 b1 (s.svp.regionStaging.limit.extractLsb' 8 8))
    (low2 : ByteOf s .reglimit 2 b2 (s.svp.regionStaging.limit.extractLsb' 16 8)) :
    dataByteAt stagingRegs b s =
      { s with
        svp :=
          { afterWrite .reglimit .ok s.svp with
            regionStaging := { s.svp.regionStaging with limit := BitVec.setWidth 25 (b ++ b2 ++ b1 ++ b0) } } } := by
  rw [dataByteAt_highest (q := some 2) s b 2 0x09 stagingRegs .reglimit 6 4 h rfl (by decide) rfl rfl rfl,
    formedValue_reglimit low0 low1 low2, ← BitVec.ofNat_toNat]
  rfl

/-- A byte of REGBASE or REGLIMIT below the highest is staged (R187). -/
theorem region_byte_staged {x : BitVec 6} {r : Reg} {i n k : Nat} (h : WritesAt 2 x s)
    (row : rowAt 2 x.toNat = some ⟨some 2, i, r, n⟩) (at_ : x.toNat = i + k) (below : k + 1 < n) (inside : x ≠ 63)
    (staging : stagingRegs.contains r = true) (writable : isWritable r = true) :
    dataByteAt stagingRegs b s =
      { s with
        svp :=
          { s.svp with
            ack := true
            index := .index (x + 1)
            staging := (s.svp.staging.filter fun q => !(q.reg = r && q.offset = k)) ++ [⟨r, k, b⟩] } } :=
  dataByteAt_below s b 2 x stagingRegs r i n k at_ below h inside row staging writable

/-! ## The commit -/

theorem commitUnlocked_iff (s : State) :
    commitUnlocked s = true ↔
      (s.ckc.state = .ready ∨ s.ckc.state = .unformatted ∨ s.ckc.state = .bypass) ∧ s.ckc.frames = [] := by
  simp [commitUnlocked, depth_eq_zero, or_assoc]

theorem regionLegal_iff (st : Straps) (r : Region) :
    regionLegal st r = true ↔
      r.base.toNat % 64 = 0 ∧ r.limit.toNat % 64 = 0 ∧ r.base.toNat < r.limit.toNat
        ∧ r.limit.toNat ≤ arraySize st := by
  simp [regionLegal, and_assoc]

theorem setIfInBounds_eq_set {α : Type} {n : Nat} (v : Vector α n) (i : Nat) (x : α) (inside : i < n) :
    v.setIfInBounds i x = v.set i x := by
  refine Vector.ext fun j hj => ?_
  rw [Vector.getElem_setIfInBounds, Vector.getElem_set]

theorem windowRegion_eq (inside : s.svp.regionIndex < 12) : windowRegion s = s.hbp.regions[s.svp.regionIndex] := by
  simp [windowRegion, inside]

/-- The machine with the byte of REGCOMMIT taken, before HBP judges the commit (R189, R191). -/
def handed (s : State) : State :=
  { s with svp := { s.svp with ack := true, stat := .ok, staging := unstage .regcommit s.svp.staging } }

/-- REGCOMMIT hands the staging to HBP, whatever byte is written (R116, R191). -/
theorem regcommit_commits (h : WritesAt 2 0x0A s) :
    exec (.regcommit b) s = .next (advanceIndex (commitRegion (handed s))) :=
  congrArg _ (dataByteAt_one (q := some 2) s b 2 0x0A [.regcommit] .regcommit h rfl rfl rfl)

section
variable {u : State}

theorem commit_locked (locked : commitUnlocked u ≠ true) : commitRegion u = setRegStat .locked u :=
  if_pos (by simpa using locked)

variable (free : commitUnlocked u = true)
include free

theorem commit_off (off : u.svp.regionStaging.valid = false) :
    commitRegion u = setRegStat .done (setRegion u.svp.regionIndex { windowRegion u with valid := false } u) :=
  (if_neg (by simp [free])).trans (if_pos (by simp [off]))

variable (on : u.svp.regionStaging.valid = true)
include on

theorem commit_legal (legal : regionLegal u.straps u.svp.regionStaging = true) :
    commitRegion u = setRegStat .done (setRegion u.svp.regionIndex u.svp.regionStaging u) :=
  (if_neg (by simp [free])).trans ((if_neg (by simp [on])).trans (if_pos legal))

theorem commit_illegal (illegal : regionLegal u.straps u.svp.regionStaging ≠ true) :
    commitRegion u = setRegStat .badValue u :=
  (if_neg (by simp [free])).trans ((if_neg (by simp [on])).trans (if_neg illegal))

end

/-- Settles O50: the staging registers byte by byte, and the four outcomes of `commitRegion` (R116). -/
theorem regionCommitsAtDepthZeroOnly : Obligations.RegionCommitsAtDepthZeroOnly := by
  refine fun s b => ⟨fun h => congrArg _ (regclass_staged h), ?_, fun b0 b1 b2 => ⟨?_, ?_⟩, ?_⟩
  · intro x r k listed h
    simp only [List.mem_cons, Prod.mk.injEq, List.not_mem_nil, or_false] at listed
    rcases listed with ⟨rfl, rfl, rfl⟩ | ⟨rfl, rfl, rfl⟩ | ⟨rfl, rfl, rfl⟩ | ⟨rfl, rfl, rfl⟩ | ⟨rfl, rfl, rfl⟩ <;>
      exact congrArg _ (region_byte_staged h rfl rfl (by decide) (by decide) rfl rfl)
  · exact fun h low0 low1 => congrArg _ (regbase_staged h low0 low1)
  · exact fun h low0 low1 low2 => congrArg _ (reglimit_staged h low0 low1 low2)
  · intro h inside g svp free legal committed
    have unlocked : commitUnlocked (handed s) = true ↔ free := commitUnlocked_iff s
    have lawful : regionLegal (handed s).straps g = true ↔ legal := regionLegal_iff s.straps g
    have replaced (r : Region) :
        s.hbp.regions.setIfInBounds s.svp.regionIndex r = s.hbp.regions.set s.svp.regionIndex r :=
      setIfInBounds_eq_set _ _ r inside
    rw [regcommit_commits h]
    refine ⟨fun locked => ?_, fun opened off => ?_, fun opened on fits => ?_, fun opened on unfit => ?_⟩
    · rw [commit_locked (mt unlocked.mp locked)]
      rfl
    · rw [commit_off (unlocked.mpr opened) off, ← windowRegion_eq inside]
      simp only [committed, ← replaced]
      rfl
    · rw [commit_legal (unlocked.mpr opened) on (lawful.mpr fits)]
      simp only [committed, ← replaced]
      rfl
    · rw [commit_illegal (unlocked.mpr opened) on (mt lawful.mp unfit)]
      rfl

end Sys2Proof.RegionCommit
end

section
/-! PROOF. The bytes of a read segment, the register map, and what each register reads (R126, R179, R181, R185, R188,
R191, R194, R195, R200). -/

namespace Sys2Proof.RegisterReads

set_option Elab.async false

open Sys2Proof.Machine Sys2Proof.Safety Sys2Proof.Laws
open Sys2Proof.BusAndConfiguration (rowAt_bytes)
open Sys2Proof.RegionCommit (littleEndian_eq_map windowRegion_eq)

variable {s : State} {row : RegRow} {i : BitVec 6}

/-! ## The row at the register index -/

theorem rowAt_of_currentRow (here : currentRow s = some row) :
    ∃ i, s.svp.index = .index i ∧ rowAt s.svp.page.toNat i.toNat = some row := by
  cases index : s.svp.index with
  | past => simp [currentRow, index] at here
  | index i => exact ⟨i, rfl, by simpa [currentRow, index] using here⟩

theorem bytes_of_currentRow (here : currentRow s = some row) : row.bytes = regLength row.reg := by
  obtain ⟨i, -, at_⟩ := rowAt_of_currentRow here
  exact (rowAt_bytes at_).1

theorem span_of_currentRow (here : currentRow s = some row) (index : s.svp.index = .index i) :
    row.index ≤ i.toNat ∧ i.toNat < row.index + row.bytes := by
  obtain ⟨j, at_j, found⟩ := rowAt_of_currentRow here
  obtain rfl : i = j := RegIndex.index.inj (index.symm.trans at_j)
  have holds : RegRow.holds row s.svp.page.toNat i.toNat = true :=
    List.find?_some (p := fun r => RegRow.holds r s.svp.page.toNat i.toNat) found
  simp only [RegRow.holds, Bool.and_eq_true, decide_eq_true_eq] at holds
  exact ⟨holds.1.2, holds.2⟩

theorem offset_eq (index : s.svp.index = .index i) : currentOffset s row = i.toNat - row.index := by
  rw [currentOffset, index]

/-- The one byte of a register stands at its index. -/
theorem offset_of_one (here : currentRow s = some row) (one : row.bytes = 1) : currentOffset s row = 0 := by
  obtain ⟨i, index, -⟩ := rowAt_of_currentRow here
  have span := span_of_currentRow here index
  rw [offset_eq index]
  omega

theorem slotWindowByte_iff (here : currentRow s = some row) :
    slotWindowByte s = true ↔ row.reg = .slotstat ∨ row.reg = .slotdata := by
  simp [slotWindowByte, reaches, currentReg, here]

theorem snapshotted_iff (r : Reg) (n : Nat) : snapshotted r n = true ↔ 1 < n ∧ r ≠ .slotdata := by
  simp [snapshotted]

/-- Neither SLOTSTAT, of one byte, nor SLOTDATA is read through a snapshot (R194). -/
theorem slotWindow_not_snapshotted (here : currentRow s = some row) (slot : row.reg = .slotstat ∨ row.reg = .slotdata) :
    snapshotted row.reg row.bytes ≠ true := by
  rw [bytes_of_currentRow here]
  rcases slot with stat | data
  · rw [stat]
    decide
  · rw [data]
    decide

theorem not_slotWindow_of_snapshotted (here : currentRow s = some row)
    (through : snapshotted row.reg row.bytes = true) : slotWindowByte s ≠ true := fun slot =>
  slotWindow_not_snapshotted here ((slotWindowByte_iff here).mp slot) through

/-! ## The byte that is sent -/

/-- The Service Port with a byte on SDA and the index advanced (R184, R185). -/
def sentByte (ack : Bool) (b : Byte) (s : State) : State :=
  { s with
    svp :=
      { s.svp with
        sda := some b
        segment := if ack = true then .reading else .ignored
        index := RegIndex.next s.svp.index } }

theorem sendByte_eq (ack : Bool) (s : State) :
    sendByte ack s = sentByte ack (byteAtIndex (snapshotAtIndex s)) (snapshotAtIndex s) := rfl

/-- A byte that takes no snapshot leaves the snapshots as they are (R188). -/
theorem snapshotAtIndex_eq_self (here : currentRow s = some row)
    (none_ : snapshotted row.reg row.bytes = true → currentOffset s row ≠ 0) : snapshotAtIndex s = s := by
  rw [snapshotAtIndex, here]
  exact if_neg (by simpa using none_)

theorem snapshotAtIndex_takes (here : currentRow s = some row) (through : snapshotted row.reg row.bytes = true)
    (lowest : currentOffset s row = 0) : snapshotAtIndex s = takeSnapshot row.reg s := by
  rw [snapshotAtIndex, here]
  exact if_pos (by simp [through, lowest])

/-- A register that is not read through a snapshot is read as it stands (R188). -/
theorem byteAtIndex_live (here : currentRow s = some row) (live : snapshotted row.reg row.bytes ≠ true) :
    byteAtIndex s = (regBytes s row.reg).getD (currentOffset s row) 0 :=
  (byteAtIndex_of_row s row here).trans (if_neg live)

theorem byteAtIndex_snapshot (here : currentRow s = some row) (through : snapshotted row.reg row.bytes = true) :
    byteAtIndex s =
      ((snapshotOf row.reg s.svp).map fun bs => bs.getD (currentOffset s row) 0).getD
        ((regBytes s row.reg).getD (currentOffset s row) 0) :=
  (byteAtIndex_of_row s row here).trans (if_pos through)

theorem sendByte_live (ack : Bool) (here : currentRow s = some row) (live : snapshotted row.reg row.bytes ≠ true) :
    sendByte ack s = sentByte ack ((regBytes s row.reg).getD (currentOffset s row) 0) s := by
  rw [sendByte_eq, snapshotAtIndex_eq_self here fun through => absurd through live, byteAtIndex_live here live]

/-- The lowest byte is read from the snapshot that it takes (R188). -/
theorem sendByte_lowest (ack : Bool) (here : currentRow s = some row)
    (through : snapshotted row.reg row.bytes = true) (lowest : currentOffset s row = 0) :
    sendByte ack s = sentByte ack ((regBytes s row.reg).getD 0 0) (takeSnapshot row.reg s) := by
  have here' : currentRow (takeSnapshot row.reg s) = some row := here
  have lowest' : currentOffset (takeSnapshot row.reg s) row = 0 := lowest
  have taken : snapshotOf row.reg (takeSnapshot row.reg s).svp = some (regBytes s row.reg) := by
    simp [snapshotOf, takeSnapshot]
  rw [sendByte_eq, snapshotAtIndex_takes here through lowest, byteAtIndex_snapshot here' through, taken, lowest']
  rfl

/-- A higher byte takes no snapshot (R188). -/
theorem sendByte_higher (ack : Bool) (here : currentRow s = some row)
    (through : snapshotted row.reg row.bytes = true) (higher : currentOffset s row ≠ 0) :
    sendByte ack s =
      sentByte ack
        (((snapshotOf row.reg s.svp).map fun bs => bs.getD (currentOffset s row) 0).getD
          ((regBytes s row.reg).getD (currentOffset s row) 0)) s := by
  rw [sendByte_eq, snapshotAtIndex_eq_self here fun _ => higher, byteAtIndex_snapshot here through]

theorem sendByte_vacant (ack : Bool) (vacant : currentRow s = none) : sendByte ack s = sentByte ack 0 s := by
  have none_ : snapshotAtIndex s = s := by rw [snapshotAtIndex, vacant]
  rw [sendByte_eq, none_, byteAtIndex, vacant]

section
variable (heard : s.resetHeld = false ∧ s.svp.stall = none ∧ s.svp.segment = .reading) (ack : Bool)
include heard

/-- A byte clocked in a read segment is sent, or waits for the load in flight (R184, R194). -/
theorem readSegmentByte_eq :
    exec (.readSegmentByte ack) s =
      .next (if slotWindowByte s = true ∧ s.svp.slotLoad ≠ none then
        { s with svp := { s.svp with stall := some (.slotByte ack) } } else sendByte ack s) := by
  obtain ⟨free, open_, reading⟩ := heard
  refine congrArg _ ((if_pos (by simp [busHeard, free, open_, reading])).trans (if_congr ?_ rfl rfl))
  simp [Option.isSome_iff_ne_none]

theorem readSegmentByte_sends (ready : slotWindowByte s ≠ true ∨ s.svp.slotLoad = none) :
    exec (.readSegmentByte ack) s = .next (sendByte ack s) := by
  rw [readSegmentByte_eq heard, if_neg]
  rintro ⟨slot, load⟩
  exact ready.elim (absurd slot) load

theorem readSegmentByte_vacant (vacant : currentRow s = none) :
    exec (.readSegmentByte ack) s = .next (sentByte ack 0 s) := by
  rw [readSegmentByte_sends heard ack (.inl (by simp [slotWindowByte, reaches, currentReg, vacant])),
    sendByte_vacant ack vacant]

variable (here : currentRow s = some row)
include here

theorem readSegmentByte_slot (index : s.svp.index = .index i) (slot : row.reg = .slotstat ∨ row.reg = .slotdata)
    (load : s.svp.slotLoad = none) :
    exec (.readSegmentByte ack) s = .next (sentByte ack ((regBytes s row.reg).getD (i.toNat - row.index) 0) s) := by
  rw [readSegmentByte_sends heard ack (.inr load), sendByte_live ack here (slotWindow_not_snapshotted here slot),
    offset_eq index]

theorem readSegmentByte_waits (slot : row.reg = .slotstat ∨ row.reg = .slotdata) (load : s.svp.slotLoad ≠ none) :
    exec (.readSegmentByte ack) s = .next { s with svp := { s.svp with stall := some (.slotByte ack) } } := by
  rw [readSegmentByte_eq heard, if_pos ⟨(slotWindowByte_iff here).mpr slot, load⟩]

theorem readSegmentByte_one (one : row.bytes = 1) (stat : row.reg ≠ .slotstat) :
    exec (.readSegmentByte ack) s = .next (sentByte ack ((regBytes s row.reg).getD 0 0) s) := by
  have data : row.reg ≠ .slotdata := fun data => by
    have length := bytes_of_currentRow here
    rw [one, data] at length
    exact absurd length (by decide)
  have live : snapshotted row.reg row.bytes ≠ true := by simp [snapshotted_iff, one]
  have other : slotWindowByte s ≠ true := by simp [slotWindowByte_iff here, stat, data]
  rw [readSegmentByte_sends heard ack (.inl other), sendByte_live ack here live, offset_of_one here one]

section
variable (several : 1 < row.bytes) (data : row.reg ≠ .slotdata) (index : s.svp.index = .index i)
include several data index

theorem readSegmentByte_lowest (lowest : i.toNat = row.index) :
    exec (.readSegmentByte ack) s =
      .next (sentByte ack ((regBytes s row.reg).getD 0 0) (takeSnapshot row.reg s)) := by
  have through := (snapshotted_iff _ _).mpr ⟨several, data⟩
  rw [readSegmentByte_sends heard ack (.inl (not_slotWindow_of_snapshotted here through)),
    sendByte_lowest ack here through (by rw [offset_eq index]; omega)]

theorem readSegmentByte_higher {k : Nat} (higher : 1 ≤ k) (at_ : i.toNat = row.index + k) :
    exec (.readSegmentByte ack) s =
      .next (sentByte ack
        (((snapshotOf row.reg s.svp).map fun bs => bs.getD k 0).getD ((regBytes s row.reg).getD k 0)) s) := by
  have through := (snapshotted_iff _ _).mpr ⟨several, data⟩
  obtain rfl : currentOffset s row = k := by rw [offset_eq index]; omega
  rw [readSegmentByte_sends heard ack (.inl (not_slotWindow_of_snapshotted here through)),
    sendByte_higher ack here through (by omega)]

end
end

/-! ## The register map -/

/-- Two rows of the map share no index of a page. -/
def RowsApart (a b : RegRow) : Prop :=
  a.index + a.bytes ≤ b.index ∨ b.index + b.bytes ≤ a.index
    ∨ (a.page.isSome = true ∧ b.page.isSome = true ∧ a.page ≠ b.page)

theorem holds_iff (r : RegRow) (p i : Nat) :
    RegRow.holds r p i = true ↔ (r.page = none ∨ r.page = some p) ∧ r.index ≤ i ∧ i < r.index + r.bytes := by
  simp [RegRow.holds, and_assoc]

theorem not_holds_of_apart {a b : RegRow} {p i : Nat} (apart : RowsApart a b) (holds : RegRow.holds a p i = true) :
    RegRow.holds b p i ≠ true := by
  intro both
  obtain ⟨pageA, fromA, toA⟩ := (holds_iff a p i).mp holds
  obtain ⟨pageB, fromB, toB⟩ := (holds_iff b p i).mp both
  rcases apart with below | above | ⟨someA, someB, differ⟩
  · omega
  · omega
  · have onA : a.page = some p := pageA.resolve_left fun every => by simp [every] at someA
    have onB : b.page = some p := pageB.resolve_left fun every => by simp [every] at someB
    exact differ (onA.trans onB.symm)

/-- No two rows of the map share an index (R200). -/
theorem registerMap_apart : registerMap.Pairwise RowsApart := by
  unfold RowsApart
  decide

/-- The row of the map that holds an index is the one that stands there (R185, R200). -/
theorem rowAt_of_mem {p i : Nat} (mem : row ∈ registerMap) (holds : RegRow.holds row p i = true) :
    rowAt p i = some row := by
  obtain ⟨before, after, split⟩ := List.append_of_mem mem
  have apart := registerMap_apart
  rw [split, List.pairwise_append] at apart
  obtain ⟨-, -, apart⟩ := apart
  rw [rowAt, split, List.find?_append, List.find?_cons_of_pos (p := fun r => RegRow.holds r p i) holds,
    Option.or_eq_right_of_none]
  refine List.find?_eq_none.mpr fun a ha both => ?_
  exact not_holds_of_apart (apart a ha row (by simp)) both holds

/-- A row of the map from its page, lowest index, register and length. -/
def mapRow (x : BitVec 2 × BitVec 6 × Reg × Nat) : RegRow := ⟨some x.1.toNat, x.2.1.toNat, x.2.2.1, x.2.2.2⟩

/-- The row of PAGE, which stands on every page (R186). -/
def pageRow : RegRow := ⟨none, 0, .page, 1⟩

section
variable (index : s.svp.index = .index i)
include index

theorem currentRow_of_mem (mem : row ∈ registerMap) (holds : RegRow.holds row s.svp.page.toNat i.toNat = true) :
    currentRow s = some row := by
  rw [currentRow, index]
  exact rowAt_of_mem mem holds

variable {map : List (BitVec 2 × BitVec 6 × Reg × Nat)} (rows : registerMap = pageRow :: map.map mapRow)
include rows

theorem currentRow_page (zero : i = 0) : currentRow s = some pageRow :=
  currentRow_of_mem index (by simp [rows]) (by simp [holds_iff, pageRow, zero])

theorem currentRow_listed {low : BitVec 6} {r : Reg} {n : Nat} (listed : (s.svp.page, low, r, n) ∈ map)
    (first : low.toNat ≤ i.toNat) (last : i.toNat < low.toNat + n) :
    currentRow s = some ⟨some s.svp.page.toNat, low.toNat, r, n⟩ := by
  refine currentRow_of_mem index ?_ ((holds_iff _ _ _).mpr ⟨.inr rfl, first, last⟩)
  rw [rows]
  exact List.mem_cons_of_mem _ (List.mem_map_of_mem listed)

/-- Where no row of the page holds the index, no register stands there (R185). -/
theorem currentRow_vacant (above : i ≠ 0)
    (vacant : ∀ low r n, (s.svp.page, low, r, n) ∈ map → i.toNat < low.toNat ∨ low.toNat + n ≤ i.toNat) :
    currentRow s = none := by
  rw [currentRow, index]
  refine List.find?_eq_none.mpr fun row mem holds => ?_
  obtain ⟨page, first, last⟩ := (holds_iff _ _ _).mp holds
  rw [rows] at mem
  obtain rfl | mapped := List.mem_cons.mp mem
  · exact above (BitVec.eq_of_toNat_eq (Nat.lt_one_iff.mp last))
  · obtain ⟨⟨p, low, r, n⟩, listed, rfl⟩ := List.mem_map.mp mapped
    obtain rfl : p = s.svp.page := BitVec.eq_of_toNat_eq (by simpa [mapRow] using page)
    have outside := vacant low r n listed
    simp only [mapRow] at first last
    omega

end

/-! ## What each register reads -/

/-- The field OWED counts the owed marks that are not empty (section 8.1, R200). -/
theorem owedCount_eq (a : Atu) : owedCount a = (a.owed.toList.filter Option.isSome).length :=
  List.countP_eq_length_filter

/-- STROBECFG reads RISING for the FAULT line as a one (R200). -/
theorem strobecfgValue_eq (u : Siu) :
    strobecfgValue u =
      bitAt (u.markEdge = .falling) 1 + bitAt (u.keepEdge = .falling) 2 + bitAt (u.undoEdge = .falling) 4
        + bitAt (u.faultPolarity = .rising) 8 + bitAt (u.faultAction = .alertOnly) 16 := by
  cases polarity : u.faultPolarity <;> simp [strobecfgValue, edgeIsFalling, polarity]

/-- The counter select names the counters in their order (R179, R181). -/
theorem selected_eq (c : Counters) (sel : BitVec 3) :
    Counters.selected c sel =
      [c.captures, c.already, c.untracked, c.replayed, c.breaches, c.refusals, c.strobesLost, c.cancelled].getD
        sel.toNat 0 := by
  have bound := sel.isLt
  rw [Counters.selected]
  interval_cases sel.toNat <;> rfl

/-- FRAMEDATA reads the frame of the frame index (R195). -/
theorem framedata_frame {f : Frame} (found : s.ckc.frames[s.svp.frameIndex.toNat]? = some f) :
    regBytes s .framedata =
      littleEndian 1 (1 + 2 * Origin.code f.origin + bitAt f.warned 8 + bitAt f.expired 16 + bitAt f.broken 32)
        ++ littleEndian 1 f.level ++ littleEndian 2 f.start ++ littleEndian 2 f.tag.toNat
        ++ littleEndian 2 f.id.toNat ++ littleEndian 2 f.age.toNat := by
  rw [regBytes, framedataBytes, found]
  rfl

theorem framedata_absent (absent : s.ckc.frames.length ≤ s.svp.frameIndex.toNat) :
    regBytes s .framedata = List.replicate 10 0 := by
  rw [regBytes, framedataBytes, List.getElem?_eq_none absent]

/-- REFHEAD reads the head of the refusal list (R126). -/
theorem refhead_head {r : Refused} {rest : List Refused} (list : s.hbp.refusals = r :: rest) :
    regBytes s .refhead =
      littleEndian 2 r.number.toNat ++ littleEndian 3 r.addr.toNat
        ++ littleEndian 1 (bitAt (r.dir = .write) 1 + 2 * Len.code r.len)
        ++ littleEndian 1 (Reason.code r.reason) := by
  rw [regBytes, refheadBytes, list]
  rfl

theorem refhead_empty (list : s.hbp.refusals = []) : regBytes s .refhead = List.replicate 7 0 := by
  rw [regBytes, refheadBytes, list]

/-- Settles O52: the bytes of a read segment by the lemmas on READ_SEGMENT_BYTE, the map by its rows, and each register
by its encoding. -/
theorem readsComeFromTheSnapshot : Obligations.ReadsComeFromTheSnapshot := by
  refine ⟨fun s ack free open_ reading => ?_, ?_, fun s => ?_⟩
  · intro sent
    have heard : s.resetHeld = false ∧ s.svp.stall = none ∧ s.svp.segment = .reading := ⟨free, open_, reading⟩
    refine ⟨fun row i here index slot load => ?_, fun row here one stat => ?_,
      fun row i here several data index lowest => ?_,
      fun row k i x here several data higher index at_ found => ?_,
      fun row k i here several data higher index at_ absent => ?_, fun vacant => ?_, fun row here slot load => ?_⟩
    · exact readSegmentByte_slot heard ack here index slot load
    · exact readSegmentByte_one heard ack here one stat
    · exact readSegmentByte_lowest heard ack here several data index lowest
    · rw [readSegmentByte_higher heard ack here several data index higher at_, snapshotOf, found]
      rfl
    · have none_ : snapshotOf row.reg s.svp = none := by
        rw [snapshotOf, List.find?_eq_none.mpr (by simpa using absent), Option.map_none]
      rw [readSegmentByte_higher heard ack here several data index higher at_, none_]
      rfl
    · exact readSegmentByte_vacant heard ack vacant
    · exact readSegmentByte_waits heard ack here slot load
  · intro map s i index
    have rows : registerMap = pageRow :: map.map mapRow := rfl
    exact ⟨currentRow_page index rows, fun _ _ _ => currentRow_listed index rows, currentRow_vacant index rows⟩
  · intro le bit
    have encoded (n v : Nat) : le n v = littleEndian n v := (littleEndian_eq_map n v).symm
    have weighed (b : Bool) (w : Nat) : bit b w = bitAt b w := rfl
    simp only [encoded, weighed]
    refine ⟨⟨rfl, rfl, rfl, rfl, rfl, rfl, rfl, rfl, rfl, rfl, rfl, rfl, rfl, rfl, rfl, rfl⟩,
      ⟨rfl, rfl, rfl, rfl, rfl, rfl, ?_, rfl, rfl, ?_, rfl, rfl, rfl⟩,
      ⟨rfl, fun inside => ?_, rfl, rfl, rfl, rfl, rfl, fun f found => framedata_frame found, framedata_absent⟩,
      ⟨rfl, rfl, rfl, ?_, rfl, refhead_empty, fun r rest list => refhead_head list, rfl⟩⟩
    · rw [← strobecfgValue_eq]
      rfl
    · rw [← owedCount_eq]
      rfl
    · rw [← windowRegion_eq inside]
      exact ⟨rfl, rfl, rfl⟩
    · rw [← selected_eq]
      rfl

end Sys2Proof.RegisterReads
end

section
/-! PROOF. Arrivals at the command queue: strobe edges with the wake list (R129 to R131, R133, R134, R146), and ticks
with the arrivals that levels owe (R149 to R154, R157). -/

namespace Sys2Proof.Arrivals

set_option Elab.async false

open Sys2Proof.Machine Sys2Proof.Safety Sys2Proof.Laws
open Sys2Proof.HostJudgement (startWake_eq)
open Sys2Proof.RegionCommit (setIfInBounds_eq_set)

variable {s : State}

/-! ## Joining and being dropped -/

theorem queueHasRoom_iff (s : State) : queueHasRoom s = true ↔ s.ckc.queue.length < 4 :=
  decide_eq_true_iff

theorem serviceArrival_joins (k : QueueKind) (room : s.ckc.queue.length < 4) :
    serviceArrival k s = enqueue ⟨.service, k⟩ (setCmdResult .accepted s) :=
  if_pos ((queueHasRoom_iff s).mpr room)

theorem serviceArrival_full (k : QueueKind) (full : 4 ≤ s.ckc.queue.length) :
    serviceArrival k s = setCmdResult .queueFull s :=
  if_neg (mt (queueHasRoom_iff s).mp (by omega))

/-- The machine with a strobe lost (R134, R146). -/
def strobeLost (s : State) : State := count .strobesLost 1 (raise .lost s)

theorem strobeArrival_joins (k : QueueKind) (room : s.ckc.queue.length < 4) :
    strobeArrival k s = enqueue ⟨.strobe, k⟩ s :=
  if_pos ((queueHasRoom_iff s).mpr room)

theorem strobeArrival_full (k : QueueKind) (full : 4 ≤ s.ckc.queue.length) : strobeArrival k s = strobeLost s :=
  if_neg (mt (queueHasRoom_iff s).mp (by omega))

theorem listWakeEntry_joins (e : WakeEntry) (room : s.siu.wakeList.length < 8) :
    listWakeEntry e s = { s with siu := { s.siu with wakeList := s.siu.wakeList ++ [e] } } :=
  if_pos room

theorem listWakeEntry_full (e : WakeEntry) (full : 8 ≤ s.siu.wakeList.length) : listWakeEntry e s = strobeLost s :=
  if_neg (Nat.not_lt.mpr full)

theorem timerArrival_joins (i : Nat) (id : Word16) (room : s.ckc.queue.length < 4) :
    timerArrival i id s =
      enqueue ⟨.timer, .undoTo id⟩ { s with atu := { s.atu with owed := s.atu.owed.setIfInBounds i none } } :=
  if_pos ((queueHasRoom_iff s).mpr room)

theorem timerArrival_full (i : Nat) (id : Word16) (full : 4 ≤ s.ckc.queue.length) :
    timerArrival i id s = { s with atu := { s.atu with owed := s.atu.owed.setIfInBounds i (some id) } } :=
  if_neg (mt (queueHasRoom_iff s).mp (by omega))

/-! ## Strobe edges -/

section
variable {line : StrobeLine} {edge : Edge}

theorem seeStrobe_of_other (other : edge ≠ selectedEdge s.siu line) : seeStrobe line edge s = s :=
  if_pos (by simp [other.symm])

variable (notHeld : s.resetHeld = false) (selected : edge = selectedEdge s.siu line)
include notHeld selected

theorem seeStrobe_of_selected :
    seeStrobe line edge s =
      if s.ckc.state = .dormant then startWake (listWakeEntry (strobeEntry line s.siu) (consumeTag line s))
      else strobeArrival (WakeEntry.kind (strobeEntry line s.siu)) (consumeTag line s) :=
  if_neg (by simp [selected, notHeld])

theorem seeStrobe_awake (awake : s.ckc.state ≠ .dormant) :
    seeStrobe line edge s = strobeArrival (WakeEntry.kind (strobeEntry line s.siu)) (consumeTag line s) :=
  (seeStrobe_of_selected notHeld selected).trans (if_neg awake)

theorem seeStrobe_dormant (dormant : s.ckc.state = .dormant) :
    seeStrobe line edge s = startWake (listWakeEntry (strobeEntry line s.siu) (consumeTag line s)) :=
  (seeStrobe_of_selected notHeld selected).trans (if_pos dormant)

end

/-- A selected MARK edge takes a tag and changes nothing else, and an edge of another line takes none (R131). -/
theorem consumeTag_eq (line : StrobeLine) (s : State) :
    consumeTag line s =
      { s with siu := if line = .mark then { s.siu with strobeTag := s.siu.strobeTag + 1 } else s.siu } := by
  cases line <;> rfl

/-- Settles O37: the edge by `seeStrobe_awake` and `seeStrobe_dormant`, the room by the arrival's two equations. -/
theorem strobeEdgesArriveOrWake : Obligations.StrobeEdgesArriveOrWake := by
  intro s line edge notHeld selected entry kind siu lost woken
  have selects : selectedEdge s.siu line = selected := by cases line <;> rfl
  have enters : strobeEntry line s.siu = entry := by cases line <;> rfl
  have asks : WakeEntry.kind entry = kind := by cases line <;> rfl
  have tagged : consumeTag line s = { s with siu := siu } := consumeTag_eq line s
  have list : siu.wakeList = s.siu.wakeList := by cases line <;> rfl
  have arrives (sel : edge = selected) (awake : s.ckc.state ≠ .dormant) :
      exec (.strobeEdge line edge) s = .next (strobeArrival kind { s with siu := siu }) := by
    rw [← asks, ← enters, ← tagged]
    exact congrArg _ (seeStrobe_awake notHeld (sel.trans selects.symm) awake)
  have wakes (sel : edge = selected) (dormant : s.ckc.state = .dormant) :
      exec (.strobeEdge line edge) s = .next (startWake (listWakeEntry entry { s with siu := siu })) := by
    rw [← enters, ← tagged]
    exact congrArg _ (seeStrobe_dormant notHeld (sel.trans selects.symm) dormant)
  refine ⟨fun sel awake room => ?_, fun sel awake full => ?_, fun sel dormant room => ?_, fun sel dormant full => ?_,
    fun other => congrArg _ (seeStrobe_of_other (selects ▸ other))⟩
  · rw [arrives sel awake, strobeArrival_joins kind (by exact room)]
    rfl
  · rw [arrives sel awake, strobeArrival_full kind (by exact full)]
    rfl
  · rw [wakes sel dormant, listWakeEntry_joins entry (by simpa only [list] using room), startWake_eq, ← list]
  · rw [wakes sel dormant, listWakeEntry_full entry (by simpa only [list] using full), startWake_eq]
    rfl

/-! ## Ticks -/

theorem raiseIf_eq (c : Bool) (f : Flag) (s : State) :
    raiseIf c f s =
      { s with acu := { s.acu with flags := s.acu.flags ||| if c = true then Flag.bit f else 0 } } := by
  cases c with
  | true => rfl
  | false => simp [raiseIf]

/-- The tick's warnings and expiries in the flags (R150, R152, R153). -/
theorem ageFrames_eq (s : State) :
    ageFrames s =
      { s with
        ckc := { s.ckc with frames := s.ckc.frames.map (Frame.ticked s.atu) }
        acu :=
          { s.acu with
            flags :=
              s.acu.flags ||| (if s.ckc.frames.any (warnsNow s.atu) = true then Flag.bit .warn else 0)
                ||| (if s.ckc.frames.any (expiresNow s.atu) = true then Flag.bit .expire else 0) } } := by
  simp only [ageFrames, raiseIf_eq]

theorem timebaseRuns_iff (s : State) :
    timebaseRuns s = true ↔ s.atu.enable = true ∧ s.ckc.state ≠ .dormant ∧ s.resetHeld = false := by
  simp [timebaseRuns, and_assoc]

theorem takeTick_stands (stands : s.atu.enable = false ∨ s.ckc.state = .dormant) : takeTick s = s := by
  refine if_neg ?_
  rw [timebaseRuns_iff]
  rintro ⟨on, awake, -⟩
  exact stands.elim (by simp [on]) awake

/-! ## Owed arrivals -/

section
variable {fresh : List Nat} {i : Nat}

theorem owedMark_eq (a : Atu) (inside : i < 8) : owedMark a i = a.owed[i] := by simp [owedMark, inside]

theorem owedArrival_absent (absent : s.ckc.frames[i]? = none) :
    owedArrival fresh i s = { s with atu := { s.atu with owed := s.atu.owed.setIfInBounds i none } } := by
  rw [owedArrival, absent]

variable {f : Frame} (stands : s.ckc.frames[i]? = some f)
include stands

/-- A level that expired at this tick, or that owes the arrival of the frame it holds, makes its arrival (R154). -/
theorem owedArrival_due (due : i ∈ fresh ∨ s.atu.action = .undoTo ∧ owedMark s.atu i = some f.id) :
    owedArrival fresh i s = timerArrival i f.id s := by
  rw [owedArrival, stands]
  exact if_pos (by simpa using due)

theorem owedArrival_unmarked (old : i ∉ fresh) (unmarked : owedMark s.atu i = none) : owedArrival fresh i s = s := by
  rw [owedArrival, stands]
  dsimp only
  rw [if_neg (by simp [old, unmarked]), unmarked]

/-- A mark that is the id of no open frame is emptied (R154). -/
theorem owedArrival_stale {id : Word16} (old : i ∉ fresh) (marked : owedMark s.atu i = some id)
    (stale : ∀ g ∈ s.ckc.frames, g.id ≠ id) :
    owedArrival fresh i s = { s with atu := { s.atu with owed := s.atu.owed.setIfInBounds i none } } := by
  have other : id ≠ f.id := (stale f (List.mem_of_getElem? stands)).symm
  rw [owedArrival, stands]
  dsimp only
  rw [if_neg (by simp [old, marked, other]), marked]
  exact if_neg (by simpa using stale)

end

/-- Settles O39: the ages and flags by `ageFrames_eq`, and each level's mark by the four cases of `owedArrival`. -/
theorem tickAgesFramesAndMakesArrivals : Obligations.TickAgesFramesAndMakesArrivals := by
  constructor
  · intro s notHeld older warns expires begun
    have ticks (on : s.atu.enable = true) (awake : s.ckc.state ≠ .dormant) :
        exec .tick s = .next (tickEffect begun) :=
      congrArg _ (if_pos ((timebaseRuns_iff s).mpr ⟨on, awake, notHeld⟩))
    refine ⟨fun on awake startUp => ?_, fun on awake running => ?_,
      fun stands => congrArg _ (takeTick_stands stands)⟩
    · rw [ticks on awake, tickEffect, if_pos (by exact startUp)]
      rfl
    · rw [ticks on awake, tickEffect, if_neg (by simp [begun, running]), ageFrames_eq]
      rfl
  · intro s fresh i inside owed
    have marks (v : Option Word16) :
        { s with atu := { s.atu with owed := s.atu.owed.setIfInBounds i v } } = owed v := by
      simp only [owed, setIfInBounds_eq_set _ _ _ inside]
    have mark : owedMark s.atu i = s.atu.owed[i] := owedMark_eq s.atu inside
    rw [owedArrivals, owedArrivals, ← mark]
    refine ⟨fun absent => (owedArrival_absent absent).trans (marks none), fun f stands => ⟨fun due => ?_,
      owedArrival_unmarked stands,
      fun id old marked stale => (owedArrival_stale stands old marked stale).trans (marks none)⟩⟩
    rw [owedArrival_due stands due]
    refine ⟨fun room => ?_, fun full => (timerArrival_full i f.id full).trans (marks _)⟩
    rw [timerArrival_joins i f.id room, marks]
    rfl

end Sys2Proof.Arrivals
end

section
/-! PROOF. The registers of one byte, and the queued codes of CMD (R133 to R135, R147, R149, R156, R170, R181, R189 to
R191, R195). -/

namespace Sys2Proof.OneByteWrites

set_option Elab.async false

open Sys2Proof.Machine Sys2Proof.Safety Sys2Proof.Laws
open Sys2Proof.Arrivals (serviceArrival_joins serviceArrival_full)
open Sys2Proof.ServiceWrites (advanceIndex_judged)

variable {s : State}

/-- The machine with a byte acknowledged and SVCSTAT OK, before the value of its register takes effect (R184, R189). -/
def heard (r : Reg) (s : State) : State :=
  { s with svp := { s.svp with ack := true, staging := unstage r s.svp.staging, stat := .ok } }

/-! ## Queued commands -/

section
variable {c : CmdCode} {k : QueueKind} (h : WritesAt 1 1 s)
  (arrives : issueCommand (heard .cmd s) c = serviceArrival k (heard .cmd s))
include h arrives

/-- A queued code joins at the tail of the queue while there is room, and is dropped where there is none (R133 to
R135). -/
theorem commandByte_queued :
    (s.ckc.queue.length < 4 →
      commandByte c s =
        { s with
          ckc := { s.ckc with queue := s.ckc.queue ++ [⟨.service, k⟩] }
          svp := { afterWrite .cmd .ok s.svp with cmdResult := .accepted } })
    ∧ (4 ≤ s.ckc.queue.length →
      commandByte c s = { s with svp := { afterWrite .cmd .ok s.svp with cmdResult := .queueFull } }) := by
  have issues : commandByte c s = advanceIndex (serviceArrival k (heard .cmd s)) :=
    (commandByte_issues s c h).trans (congrArg _ arrives)
  rw [issues]
  refine ⟨fun room => ?_, fun full => ?_⟩
  · rw [serviceArrival_joins k (by exact room)]
    rfl
  · rw [serviceArrival_full k (by exact full)]
    rfl

end

/-- Settles O42: each of the five codes issues its arrival, by `commandByte_queued`. -/
theorem queuedCommandsJoinTheQueue : Obligations.QueuedCommandsJoinTheQueue := by
  intro s i kind h listed
  have issues : ∃ c, exec i s = .next (commandByte c s)
      ∧ issueCommand (heard .cmd s) c = serviceArrival kind (heard .cmd s) := by
    simp only [List.mem_cons, Prod.mk.injEq, List.not_mem_nil, or_false] at listed
    rcases listed with ⟨rfl, rfl⟩ | ⟨rfl, rfl⟩ | ⟨rfl, rfl⟩ | ⟨rfl, rfl⟩ | ⟨rfl, rfl⟩
    · exact ⟨.mark, rfl, rfl⟩
    · exact ⟨.keep, rfl, rfl⟩
    · exact ⟨.undo, rfl, rfl⟩
    · exact ⟨.undoAll, rfl, rfl⟩
    · exact ⟨.undoTo, rfl, rfl⟩
  obtain ⟨c, is, arrives⟩ := issues
  obtain ⟨joins, full⟩ := commandByte_queued h arrives
  exact ⟨fun room => is.trans (congrArg _ (joins room)), fun none => is.trans (congrArg _ (full none))⟩

/-! ## Registers of one byte -/

/-- The byte of a one-byte register takes effect when its value is legal, and changes SVCSTAT alone when it is not
(R187, R189). -/
theorem oneByte_judged {b : Byte} {p : BitVec 2} {x : BitVec 6} {r : Reg} {legal : Bool} {P : Prop} [Decidable P]
    {f : State → State} (h : WritesAt p x s) (row : rowAt p.toNat x.toNat = some ⟨some p.toNat, x.toNat, r, 1⟩)
    (writable : isWritable r = true) (takes : ∀ u, takeValue r b.toNat u = judged legal f u)
    (range : legal = true ↔ P) :
    dataByteAt [r] b s =
      if P then advanceIndex (f (heard r s)) else { s with svp := afterWrite r .badValue s.svp } := by
  rw [dataByteAt_one s b p x [r] r h row (by simp) writable, takes]
  exact advanceIndex_judged range _ _

/-- A byte that is legal whatever its value (R189). -/
theorem oneByte_taken {b : Byte} {p : BitVec 2} {x : BitVec 6} {r : Reg} {f : State → State} (h : WritesAt p x s)
    (row : rowAt p.toNat x.toNat = some ⟨some p.toNat, x.toNat, r, 1⟩) (writable : isWritable r = true)
    (takes : ∀ u, takeValue r b.toNat u = judged true f u) : dataByteAt [r] b s = advanceIndex (f (heard r s)) :=
  (oneByte_judged h row writable takes (P := True) (by simp)).trans (if_pos trivial)

/-- TIMERCFG's fields by the bits of its byte (R149, R156). -/
theorem applyTimercfg_byte (b : Byte) (a : Atu) :
    applyTimercfg b.toNat a =
      { a with
        enable := b.getLsbD 0
        action := if b.getLsbD 1 = true then .undoTo else .alertOnly
        prescaler := if b.getLsbD 0 = true ∧ a.enable = true then a.prescaler else 0
        divider := if b.getLsbD 0 = true ∧ a.enable = true then a.divider else 0
        owed := if a.action = .undoTo ∧ b.getLsbD 1 = false then Vector.replicate 8 none else a.owed } := by
  have leaves : (if b.getLsbD 1 = true then ExpiryAction.undoTo else .alertOnly) = .alertOnly
      ↔ b.getLsbD 1 = false := by cases b.getLsbD 1 <;> simp
  simp only [applyTimercfg, BitVec.testBit_toNat, leaves]

/-- REGIDX loads the staging from the descriptor that it names (R191). -/
theorem regidx_taken {b : Byte} (h : WritesAt 2 0x01 s) :
    dataByteAt [.regidx] b s =
      if inside : b.toNat < 12 then
        { s with
          svp :=
            { afterWrite .regidx .ok s.svp with
              regionIndex := b.toNat
              regionStaging := s.hbp.regions[b.toNat] } }
      else { s with svp := afterWrite .regidx .badValue s.svp } := by
  refine (oneByte_judged (P := b.toNat < 12) h rfl rfl (fun _ => by rw [takeValue]) decide_eq_true_iff).trans ?_
  by_cases inside : b.toNat < 12
  · rw [if_pos inside, dif_pos inside]
    have loaded : s.hbp.regions[b.toNat]?.getD Region.reset = s.hbp.regions[b.toNat] := by simp [inside]
    rw [← loaded]
    rfl
  · rw [if_neg inside, dif_neg inside]

/-- Settles O48: each register's value is judged by its range (`oneByte_judged`) and taken by its own equation. -/
theorem oneByteRegistersTakeLegalValues : Obligations.OneByteRegistersTakeLegalValues := by
  intro s b v ok bad
  have byte : BitVec.ofNat 8 b.toNat = b := by rw [BitVec.ofNat_toNat, BitVec.setWidth_eq]
  refine ⟨fun h => ?_, fun h => ?_, fun h => ?_, fun h => ?_, fun h => congrArg _ (regidx_taken h), fun h => ?_,
    fun h => ?_⟩
  · exact congrArg _ ((oneByte_taken h rfl rfl (fun _ => by rw [takeValue])).trans rfl)
  · exact congrArg _ (oneByte_judged h rfl rfl (fun _ => by rw [takeValue]) decide_eq_true_iff)
  · refine congrArg _ ((oneByte_taken h rfl rfl (fun _ => by rw [takeValue])).trans ?_)
    rw [applyTimercfg_byte]
    rfl
  · refine congrArg _ ((oneByte_judged h rfl rfl (fun _ => by rw [takeValue]) decide_eq_true_iff).trans ?_)
    rw [byte]
    rfl
  · exact congrArg _ (oneByte_judged h rfl rfl (fun _ => by rw [takeValue]) decide_eq_true_iff)
  · exact congrArg _ (oneByte_judged h rfl rfl (fun _ => by rw [takeValue]) decide_eq_true_iff)

end Sys2Proof.OneByteWrites
end

section
/-! PROOF. The arbiter: the search in rotation and the bounds on a request's wait that follow from it (R160, R163,
R164). -/

namespace Sys2Proof.Arbiter

set_option Elab.async false

open Sys2Proof.Machine Sys2Proof.Safety

variable {m : Mbp} {r : Requester} {q : MemRequest}

/-! ## The search -/

/-- The requester that the search begins with after a grant to `r` (R163). -/
def following : Requester → Requester
  | .host => .engine
  | .engine => .service
  | .service => .host

theorem searchOrder_eq (r : Requester) : searchOrder r = [following r, following (following r), r] := by
  cases r <;> rfl

theorem eq_following_of_ne {l : Requester} (other : l ≠ r) : r = following l ∨ r = following (following l) := by
  have mem : r ∈ searchOrder l := by cases r <;> cases l <;> simp [searchOrder]
  simpa [searchOrder_eq, other.symm] using mem

/-- The search finds the first requester in its order that waits (R163). -/
theorem nextGrant_of_search {first rest : List Requester} (order : searchOrder m.lastGrant = first ++ r :: rest)
    (waits : waitingOf m r ≠ none) (before : ∀ x ∈ first, waitingOf m x = none) : nextGrant m = some r :=
  List.find?_eq_some_iff_append.mpr
    ⟨Option.isSome_iff_ne_none.mpr waits, first, rest, order, fun x mem => by simp [before x mem]⟩

theorem nextGrant_of_none (none_ : ∀ r, waitingOf m r = none) : nextGrant m = none :=
  List.find?_eq_none.mpr fun r _ => by simp [none_ r]

/-! ## The grant -/

section
variable {s : State}

theorem grant_issues (notHeld : s.resetHeld = false) (free : s.mbp.phase = .free)
    (next : nextGrant s.mbp = some r) (waits : waitingOf s.mbp r = some q) :
    grant s = { s with mbp := issue r q s.mbp } := by
  rw [grant, if_pos (by simp [notHeld, free]), next]
  dsimp only
  rw [waits]

theorem grant_of_not_free (other : s.mbp.phase ≠ .free) : grant s = s := if_neg (by simp [other])

theorem grant_of_none (next : nextGrant s.mbp = none) : grant s = s := by
  rw [grant, next]
  exact ite_self s

end

/-! ## How long a request waits -/

/-- After another requester's grant only the requester between the two can come before a waiting one. -/
theorem nextGrant_of_other (waits : waitingOf m r ≠ none) (other : m.lastGrant ≠ r) :
    nextGrant m = some r ∨ nextGrant m = some (following m.lastGrant) ∧ following (following m.lastGrant) = r := by
  obtain rfl | rfl := eq_following_of_ne other
  · exact .inl (nextGrant_of_search (searchOrder_eq _) waits (first := []) (by simp))
  · by_cases between : waitingOf m (following m.lastGrant) = none
    · exact .inl (nextGrant_of_search (searchOrder_eq _) waits (first := [_]) (by simpa using between))
    · exact .inr ⟨nextGrant_of_search (searchOrder_eq _) between (first := []) (by simp), rfl⟩

/-- A request behind another requester's transaction is granted at the first or the second grant (R164). -/
theorem granted_within_two {m' : Mbp} {g g' : Requester} (waits : waitingOf m r ≠ none)
    (waits' : waitingOf m' r ≠ none) (next : nextGrant m = some g) (last : m'.lastGrant = g)
    (next' : nextGrant m' = some g') (other : m.lastGrant ≠ r) : g = r ∨ g' = r := by
  obtain now | ⟨between, second⟩ := nextGrant_of_other waits other
  · exact .inl (Option.some.inj (next.symm.trans now))
  · obtain rfl : g = following m.lastGrant := Option.some.inj (next.symm.trans between)
    have head : searchOrder m'.lastGrant = [] ++ r :: [following r, m'.lastGrant] := by
      rw [searchOrder_eq, last, second, List.nil_append]
    have now : nextGrant m' = some r := nextGrant_of_search head waits' (by simp)
    exact .inr (Option.some.inj (next'.symm.trans now))

/-- Settles O54: the grant by `nextGrant_of_search`, the bound of two by `granted_within_two`, and that of three by
the same bound counted from the second grant. -/
theorem arbiterGrantsInRotation : Obligations.ArbiterGrantsInRotation := by
  refine ⟨⟨rfl, rfl, rfl⟩, fun s r q first rest notHeld free order waits before => ?_, fun s idle => ?_,
    fun m1 m2 m3 r g1 g2 g3 waits1 waits2 waits3 next1 last2 next2 last3 next3 => ?_⟩
  · have next := nextGrant_of_search order (by simp [waits]) before
    exact congrArg _ (grant_issues notHeld free next waits)
  · exact congrArg _ (idle.elim grant_of_not_free fun none_ => grant_of_none (nextGrant_of_none none_))
  · have two := granted_within_two waits1 waits2 next1 last2 next2
    refine ⟨two, ?_⟩
    by_cases first : g1 = r
    · exact .inl first
    · exact .inr (granted_within_two waits2 waits3 next2 last3 next3 (last2 ▸ first))

end Sys2Proof.Arbiter
end

section
/-! PROOF. Time with no command waiting: what one REFCLK period makes of the memory watch and of the timebase, and the
periods until either count is full (R149, R167). -/

namespace Sys2Proof.RefclkTime

set_option Elab.async false

open Sys2Proof.Machine Sys2Proof.Safety Sys2Proof.Laws
open Sys2Proof.Arrivals (timerArrival_joins timerArrival_full timebaseRuns_iff ageFrames_eq)

/-! ## Runs -/

theorem run_succ_of_run (M : Host.Core) {s t : M.State} (n : Nat) (h : M.run n s = .next t) :
    M.run (n + 1) s = M.step t := by
  induction n generalizing s with
  | zero =>
    obtain rfl : s = t := by simpa [Host.Core.run] using h
    rw [Host.Core.run]
    cases M.step s <;> rfl
  | succ n ih =>
    rw [Host.Core.run] at h ⊢
    cases taken : M.step s with
    | next s' => exact ih (by simpa only [taken] using h)
    | fault | refused => simp [taken] at h

/-- A machine that steps along `f` up to `last` runs along it, and its next step is that of `f last`. -/
theorem run_along (M : Host.Core) {f : Nat → M.State} {last : Nat}
    (steps : ∀ k < last, M.step (f k) = .next (f (k + 1))) :
    (∀ n ≤ last, M.run n (f 0) = .next (f n)) ∧ M.run (last + 1) (f 0) = M.step (f last) := by
  have along : ∀ n ≤ last, M.run n (f 0) = .next (f n) := by
    intro n
    induction n with
    | zero => exact fun _ => rfl
    | succ n ih => exact fun le => (run_succ_of_run M n (ih (by omega))).trans (steps n le)
  exact ⟨along, run_succ_of_run M last (along last le_rfl)⟩

/-- A machine that counts eight periods to the microsecond in `f`, up to microsecond `c`, runs along the count, and the
last period of that microsecond is a step of `f c 7`. -/
theorem run_microseconds (M : Host.Core) {f : Nat → Nat → M.State} {c : Nat}
    (within : ∀ m p, p + 1 < 8 → M.step (f m p) = .next (f m (p + 1)))
    (microsecond : ∀ m < c, M.step (f m 7) = .next (f (m + 1) 0)) :
    (∀ n < 8 * (c + 1), M.run n (f 0 0) = .next (f (n / 8) (n % 8)))
      ∧ M.run (8 * (c + 1)) (f 0 0) = M.step (f c 7) := by
  have steps (n : Nat) (before : n < 8 * c + 7) :
      M.step (f (n / 8) (n % 8)) = .next (f ((n + 1) / 8) ((n + 1) % 8)) := by
    by_cases fraction : n % 8 + 1 < 8
    · rw [within _ _ fraction, show (n + 1) / 8 = n / 8 by omega, show (n + 1) % 8 = n % 8 + 1 by omega]
    · rw [show n % 8 = 7 by omega, microsecond _ (by omega), show (n + 1) / 8 = n / 8 + 1 by omega,
        show (n + 1) % 8 = 0 by omega]
  obtain ⟨along, ends⟩ := run_along M (f := fun n => f (n / 8) (n % 8)) steps
  have last : f ((8 * c + 7) / 8) ((8 * c + 7) % 8) = f c 7 := by
    rw [show (8 * c + 7) / 8 = c by omega, show (8 * c + 7) % 8 = 7 by omega]
  exact ⟨fun n before => along n (by omega), ends.trans (congrArg _ last)⟩

/-! ## One period -/

section
variable {s : State}

theorem step_of_idle (idle : s.pending = []) : step s = .next (refclkPeriod s) := by rw [step, idle]

theorem timebasePeriod_of_stopped (stopped : timebaseRuns s = false) : timebasePeriod s = s :=
  if_pos (by simp [stopped])

theorem wakePeriod_of_asleep (asleep : s.ckc.waking = false) : wakePeriod s = s := if_pos (by simp [asleep])

theorem watchPeriod_of_free (free : s.mbp.phase = .free) : watchPeriod s = s := if_pos (by simp [free])

/-- With the timebase stopped and no wake in progress only the memory watch counts. -/
theorem refclkPeriod_watches (stopped : timebaseRuns s = false) (asleep : s.ckc.waking = false) :
    refclkPeriod s = watchPeriod s := by
  rw [refclkPeriod, timebasePeriod_of_stopped stopped, wakePeriod_of_asleep asleep]

/-- With the bus FREE and no wake in progress after the timebase's period only the timebase counts. -/
theorem refclkPeriod_ticks (free : s.mbp.phase = .free) (asleep : (timebasePeriod s).ckc.waking = false) :
    refclkPeriod s = timebasePeriod s := by
  have mbp : (timebasePeriod s).mbp = s.mbp := timebasePeriod_touches s .mbp (by decide)
  rw [refclkPeriod, wakePeriod_of_asleep asleep, watchPeriod_of_free (by rw [mbp, free])]

end

/-! ## The memory watch -/

/-- The machine with the memory watch at `c` microseconds and `p` REFCLK periods (R167). -/
def watched (c p : Nat) (s : State) : State :=
  { s with mbp := { s.mbp with watchCount := c, watchPeriods := p } }

theorem watched_self (s : State) : watched s.mbp.watchCount s.mbp.watchPeriods s = s := rfl

section
variable {s : State} (running : s.mbp.phase ≠ .free) (notHeld : s.resetHeld = false)
include running notHeld

theorem watchPeriod_within (c : Nat) {p : Nat} (within : p + 1 < 8) :
    watchPeriod (watched c p s) = watched c (p + 1) s := by
  rw [watchPeriod, if_neg (by simp [watched, running, notHeld]), if_pos (by exact within)]
  rfl

theorem watchPeriod_microsecond (c : Nat) :
    watchPeriod (watched c 7 s) =
      if watchTarget s.mbp ≤ c + 1 then watchReached (watched (c + 1) 0 s) else watched (c + 1) 0 s := by
  rw [watchPeriod, if_neg (by simp [watched, running, notHeld]), if_neg (by simp [watched])]
  rfl

end

/-- A timeout begins the drain's count anew, whatever the watch stood at (R168). -/
theorem watchExpires_watched {s : State} {x : MemTxn} (out : s.mbp.outstanding = some x) (c p : Nat) :
    watchExpires (watched c p s) = watchExpires s := by
  have out' : (watched c p s).mbp.outstanding = some x := out
  rw [watchExpires, watchExpires, out, out']
  rfl

section
variable {s : State} {x : MemTxn} (busy : s.mbp.phase = .busy) (out : s.mbp.outstanding = some x)
include busy out

theorem watchTarget_of_busy : watchTarget s.mbp = x.limit.toNat := by
  rw [watchTarget, busy, out]

/-- The last period of the limit ends the transaction TIMEOUT (R167). -/
theorem watchPeriod_expires (notHeld : s.resetHeld = false) {c : Nat} (limit : x.limit.toNat = c + 1) :
    watchPeriod (watched c 7 s) = watchExpires s := by
  have busy' : (watched (c + 1) 0 s).mbp.phase = .busy := busy
  rw [watchPeriod_microsecond (by simp [busy]) notHeld, if_pos (by rw [watchTarget_of_busy busy out, limit]),
    watchReached, busy']
  exact watchExpires_watched out _ _

end

/-- A transaction outstanding runs to its limit, and at the 8·L-th period it ends TIMEOUT (R167). -/
theorem transaction_runs_to_timeout {s : State} {x : MemTxn} (idle : s.pending = []) (notHeld : s.resetHeld = false)
    (asleep : s.ckc.waking = false) (off : s.atu.enable = false) (busy : s.mbp.phase = .busy)
    (out : s.mbp.outstanding = some x) (begun : watched 0 0 s = s) (limited : x.limit ≠ 0) :
    (∀ n, n < 8 * x.limit.toNat → Host.Core.run core n s = .next (watched (n / 8) (n % 8) s))
      ∧ Host.Core.run core (8 * x.limit.toNat) s = exec .memoryWatchTimeout s := by
  obtain ⟨c, limit⟩ : ∃ c, x.limit.toNat = c + 1 :=
    Nat.exists_eq_succ_of_ne_zero fun zero => limited (BitVec.eq_of_toNat_eq zero)
  have running : s.mbp.phase ≠ .free := by simp [busy]
  have steps (m p : Nat) : step (watched m p s) = .next (watchPeriod (watched m p s)) := by
    have stopped : timebaseRuns (watched m p s) = false := by simp [timebaseRuns, watched, off]
    rw [step_of_idle (by exact idle), refclkPeriod_watches stopped (by exact asleep)]
  have within (m p : Nat) (le : p + 1 < 8) : step (watched m p s) = .next (watched m (p + 1) s) := by
    rw [steps, watchPeriod_within running notHeld m le]
  have microsecond (m : Nat) (before : m < c) : step (watched m 7 s) = .next (watched (m + 1) 0 s) := by
    have early : ¬ watchTarget s.mbp ≤ m + 1 := by
      rw [watchTarget_of_busy busy out]
      omega
    rw [steps, watchPeriod_microsecond running notHeld, if_neg early]
  have last : step (watched c 7 s) = exec .memoryWatchTimeout s := by
    rw [steps, watchPeriod_expires busy out notHeld limit]
    rfl
  obtain ⟨along, ends⟩ := run_microseconds core (f := fun m p => watched m p s) within microsecond
  rw [begun] at along ends
  rw [limit]
  exact ⟨along, ends.trans last⟩

/-! ## The timebase -/

/-- The machine with the timebase at divider `d` and prescaler `p` (R149). -/
def clocked (d p : Nat) (s : State) : State := { s with atu := { s.atu with prescaler := p, divider := d } }

theorem clocked_self (s : State) : clocked s.atu.divider s.atu.prescaler s = s := rfl

section
variable {s : State} (running : timebaseRuns s = true)
include running

theorem timebasePeriod_within {p : Nat} (d : Nat) (within : p + 1 < 8) :
    timebasePeriod (clocked d p s) = clocked d (p + 1) s := by
  have running' : timebaseRuns (clocked d p s) = true := running
  rw [timebasePeriod, if_neg (by simp [running']), if_pos (by exact within)]
  rfl

theorem timebasePeriod_microsecond (d : Nat) :
    timebasePeriod (clocked d 7 s) = if d + 1 < 2 ^ s.atu.tickSel.toNat then clocked (d + 1) 0 s else takeTick s := by
  have running' : timebaseRuns (clocked d 7 s) = true := running
  rw [timebasePeriod, if_neg (by simp [running']), if_neg (by simp [clocked]), takeTick, if_pos running', takeTick,
    if_pos running]
  rfl

end

/-! ## A tick wakes nothing -/

section
variable (s : State)

theorem timerArrival_waking (i : Nat) (id : Word16) : (timerArrival i id s).ckc.waking = s.ckc.waking := by
  by_cases room : s.ckc.queue.length < 4
  · rw [timerArrival_joins i id room]
    rfl
  · rw [timerArrival_full i id (by omega)]

theorem owedArrival_waking (fresh : List Nat) (i : Nat) : (owedArrival fresh i s).ckc.waking = s.ckc.waking := by
  unfold owedArrival
  split
  · rfl
  split
  · exact timerArrival_waking s i _
  split
  · rfl
  split <;> rfl

theorem owedArrivals_waking (fresh is : List Nat) : (owedArrivals fresh is s).ckc.waking = s.ckc.waking := by
  induction is generalizing s with
  | nil => rfl
  | cons i is ih => exact (ih _).trans (owedArrival_waking s fresh i)

theorem takeTick_waking : (takeTick s).ckc.waking = s.ckc.waking := by
  unfold takeTick
  split
  · unfold tickEffect
    split
    · rfl
    · rw [owedArrivals_waking, ageFrames_eq]
  · rfl

theorem timebasePeriod_waking : (timebasePeriod s).ckc.waking = s.ckc.waking := by
  unfold timebasePeriod
  split
  · rfl
  split
  · rfl
  split
  · rfl
  · exact takeTick_waking s

end

/-- With the bus FREE the timebase runs to its period, and at the 8·2^TICKSEL-th REFCLK period a tick comes (R149). -/
theorem timebase_runs_to_tick {s : State} (idle : s.pending = []) (asleep : s.ckc.waking = false)
    (free : s.mbp.phase = .free) (running : timebaseRuns s = true) (begun : clocked 0 0 s = s) :
    (∀ n, n < 8 * 2 ^ s.atu.tickSel.toNat → Host.Core.run core n s = .next (clocked (n / 8) (n % 8) s))
      ∧ Host.Core.run core (8 * 2 ^ s.atu.tickSel.toNat) s = exec .tick s := by
  obtain ⟨d, period⟩ : ∃ d, 2 ^ s.atu.tickSel.toNat = d + 1 := Nat.exists_eq_add_one.mpr (Nat.two_pow_pos _)
  have steps (m p : Nat) : step (clocked m p s) = .next (timebasePeriod (clocked m p s)) := by
    have still : (timebasePeriod (clocked m p s)).ckc.waking = false := (timebasePeriod_waking _).trans asleep
    rw [step_of_idle (by exact idle), refclkPeriod_ticks (by exact free) still]
  have within (m p : Nat) (le : p + 1 < 8) : step (clocked m p s) = .next (clocked m (p + 1) s) := by
    rw [steps, timebasePeriod_within running m le]
  have microsecond (m : Nat) (before : m < d) : step (clocked m 7 s) = .next (clocked (m + 1) 0 s) := by
    rw [steps, timebasePeriod_microsecond running, if_pos (by omega)]
  have last : step (clocked d 7 s) = exec .tick s := by
    rw [steps, timebasePeriod_microsecond running, if_neg (by omega)]
    rfl
  obtain ⟨along, ends⟩ := run_microseconds core (f := fun m p => clocked m p s) within microsecond
  rw [begun] at along ends
  rw [period]
  exact ⟨along, ends.trans last⟩

/-- Settles O2: the watch by `transaction_runs_to_timeout`, the timebase by `timebase_runs_to_tick`. -/
theorem timeRunsByRefclk : Obligations.TimeRunsByRefclk := by
  refine ⟨fun s x idle notHeld asleep off busy out count periods limited => ?_,
    fun s idle notHeld asleep free on awake prescaler divider => ?_⟩
  · have begun : watched 0 0 s = s := by
      have self := watched_self s
      rwa [count, periods] at self
    exact transaction_runs_to_timeout idle notHeld asleep off busy out begun limited
  · have begun : clocked 0 0 s = s := by
      have self := clocked_self s
      rwa [prescaler, divider] at self
    exact timebase_runs_to_tick idle asleep free ((timebaseRuns_iff s).mpr ⟨on, awake, notHeld⟩) begun

end Sys2Proof.RefclkTime
end

section
/-! PROOF. ALERT and SETTLED, the saturating counters and CLEAR_COUNTS, written at once or carried through a wake (R24,
R93, R178, R180, R182). -/

namespace Sys2Proof.AlertsAndCounters

set_option Elab.async false

open Sys2Proof.Machine Sys2Proof.Safety Sys2Proof.Laws
open Sys2Proof.HostJudgement (startWake_eq)
open Sys2Proof.ServiceWrites (commandByte_accepted)
open Sys2Proof.TimeAndWake (wokenOf)
open Sys2Proof.WakeEnd (releasedOf wakeEnd_byte)

/-! ## ALERT and SETTLED -/

/-- A word and its mask meet where some bit is set in both. -/
theorem and_ne_zero_iff {w : Nat} (x y : BitVec w) :
    x &&& y ≠ 0 ↔ ∃ n, n < w ∧ x.getLsbD n = true ∧ y.getLsbD n = true := by
  rw [ne_eq, BitVec.eq_of_getLsbD_eq_iff]
  simp

theorem alert_iff (s : State) :
    alert s = true ↔
      s.resetHeld = false ∧ ∃ n, n < 14 ∧ s.acu.flags.getLsbD n = true ∧ s.acu.masks.getLsbD n = true := by
  rw [← and_ne_zero_iff]
  simp [alert]

theorem settledState_iff (c : CtrlState) :
    settledState c = true ↔ c ∈ [CtrlState.ready, .await, .unformatted, .bypass, .dormant] := by
  cases c <;> decide

theorem settled_iff (s : State) :
    settled s = true ↔
      s.resetHeld = false ∧ s.ckc.queue = []
        ∧ s.ckc.state ∈ [CtrlState.ready, .await, .unformatted, .bypass, .dormant] := by
  rw [← settledState_iff]
  simp [settled, and_assoc]

/-- Settles O40, by `alert_iff` and `settled_iff`. -/
theorem alertAndSettledShowTheState : Obligations.AlertAndSettledShowTheState :=
  fun s => ⟨alert_iff s, settled_iff s⟩

/-! ## Counters -/

/-- An increase is the sum up to `$FFFF_FFFF` (R180). -/
theorem satAdd_toNat (c : BitVec 32) (n : Nat) : (satAdd c n).toNat = min (c.toNat + n) 0xFFFFFFFF := by
  unfold satAdd
  split
  next fits =>
    rw [BitVec.toNat_ofNat, Nat.mod_eq_of_lt fits]
    omega
  next past =>
    rw [BitVec.toNat_allOnes]
    omega

/-- The machine after CLEAR_COUNTS has been written to CMD (R182). -/
def cleared (s : State) : State :=
  { s with
    acu := { s.acu with counters := Counters.zero }
    hbp := { s.hbp with overflow := 0 }
    svp := { afterWrite .cmd .ok s.svp with cmdResult := .done } }

/-- CLEAR_COUNTS is accepted in every state of the controller (R182). -/
theorem clearCounts_writes {s : State} (h : WritesAt 1 1 s) : commandByte .clearCounts s = cleared s :=
  commandByte_accepted h (allowed := fun _ => true) (effect := clearCountsEffect) (fun _ => rfl) rfl

/-! ## A command carried through a wake -/

/-- The machine with a data byte held for the end of a wake, which goes on or begins (R109, R196). -/
def heldByte (b : Byte) (s : State) : State :=
  { s with
    svp := { s.svp with ack := true, stall := some (.wakeByte b) }
    ckc := if s.ckc.waking = true then s.ckc else { s.ckc with waking := true, wakeCount := 0 } }

theorem heldByte_touches (b : Byte) (s : State) : Touches [.ckc, .svp] s (heldByte b s) :=
  Touches_trans (touches_ckc s (heldByte b s).ckc) (touches_svp _ (heldByte b s).svp)

theorem heldByte_waking (b : Byte) (s : State) : (heldByte b s).ckc.waking = true := by
  unfold heldByte
  dsimp only
  split
  · assumption
  · rfl

/-- The machine in READY when the wake has ended, before the acknowledged byte is written (R109, R196). -/
def awakened (s : State) : State := { wokenOf s with svp := { s.svp with ack := true, stall := none } }

theorem releasedOf_heldByte (b : Byte) (s : State) : releasedOf (heldByte b s) = awakened s := by
  unfold awakened releasedOf wokenOf heldByte
  dsimp only
  split <;> rfl

theorem awakened_writesAt {s : State} {p : BitVec 2} {i : BitVec 6} (notHeld : s.resetHeld = false)
    (writing : s.svp.segment = .writing) (page : s.svp.page = p) (index : s.svp.index = .index i) :
    WritesAt p i (awakened s) :=
  ⟨⟨notHeld, rfl, nofun⟩, writing, page, index⟩

/-- A data byte that is heard in DORMANT waits for the end of the wake (R196). -/
theorem dataByte_dormant {s : State} (b : Byte) (notHeld : s.resetHeld = false) (free : s.svp.stall = none)
    (writing : s.svp.segment = .writing) (dormant : s.ckc.state = .dormant) : dataByte b s = heldByte b s := by
  have heard : (busHeard s && decide (s.svp.segment = .writing)) = true := by simp [busHeard, notHeld, free, writing]
  rw [dataByte, if_pos heard, if_pos dormant]
  dsimp only
  rw [startWake_eq]
  rfl

/-- At CMD the code byte of a command is the command's own event (R190). -/
theorem commandByte_at_cmd {s : State} (c : CmdCode) (page : s.svp.page = 1) (index : s.svp.index = .index 1) :
    commandByte c s = dataByte (CmdCode.byte c) s := by
  have atCmd : reaches [.cmd] s = true := by
    rw [reaches, currentReg, currentRow, index, page]
    decide
  rw [commandByte, dataByteAt, if_pos atCmd]

/-- A command that a wake held is given to CMD in READY, when the wake ends (R196). -/
theorem wakeEnd_command {s : State} (c : CmdCode) (order : List WakeEvent) (notHeld : s.resetHeld = false)
    (writing : s.svp.segment = .writing) (page : s.svp.page = 1) (index : s.svp.index = .index 1)
    (list : s.siu.wakeList = []) (fault : s.siu.wakeFault = false) (current : s.hbp.current = none) :
    exec (.wakeEnd order) (heldByte (CmdCode.byte c) s) = .next (commandByte c (awakened s)) := by
  rw [wakeEnd_byte order (heldByte_waking _ s) _ list fault current rfl writing rfl notHeld, releasedOf_heldByte,
    commandByte_at_cmd (s := awakened s) c page index]
  rfl

/-- Settles O41: the sum by `satAdd_toNat`, the command at once by `clearCounts_writes`, and carried through a wake by
`wakeEnd_command`. -/
theorem countersSaturateAndClear : Obligations.CountersSaturateAndClear := by
  refine ⟨satAdd_toNat, fun s h => congrArg _ (clearCounts_writes h),
    fun s notHeld dormant free writing page index list fault current => ?_⟩
  have held : exec .clearCounts s = .next (heldByte (CmdCode.byte .clearCounts) s) :=
    congrArg _ ((commandByte_at_cmd .clearCounts page index).trans (dataByte_dormant _ notHeld free writing dormant))
  refine ⟨_, held, heldByte_touches _ s, heldByte_waking _ s, fun order => ?_⟩
  rw [wakeEnd_command .clearCounts order notHeld writing page index list fault current,
    clearCounts_writes (awakened_writesAt notHeld writing page index)]
  simp only [cleared, awakened, afterWrite, free]
  rfl

end Sys2Proof.AlertsAndCounters
end

section
/-! PROOF. The slot window: SLOTLOAD, the end of the SERVICE read, and what waited for it (R192 to R194). -/

namespace Sys2Proof.SlotWindow

set_option Elab.async false

open Sys2Proof.Machine Sys2Proof.Safety Sys2Proof.Laws
open Sys2Proof.Checkpoint (memoryAnswers_of_awaits)
open Sys2Proof.OneByteWrites (heard oneByte_taken)
open Sys2Proof.RegisterReads (currentRow_of_mem holds_iff sentByte sendByte_live slotWindow_not_snapshotted offset_eq)

variable {s : State} {n : Nat} {ack : Bool} {x : BitVec 6}

/-! ## SLOTLOAD -/

/-- SLOTLOAD is taken whatever byte is written (R192). -/
theorem slotload_writes (b : Byte) (h : WritesAt 2 0x0E s) :
    exec (.slotload b) s = .next (advanceIndex (writeSlotload (heard .slotload s))) :=
  congrArg _ (oneByte_taken h rfl rfl fun _ => by rw [takeValue])

theorem writeSlotload_idle (idle : s.svp.slotLoad = none) : writeSlotload s = beginSlotLoad s :=
  if_neg (by simp [idle])

theorem writeSlotload_busy (busy : s.svp.slotLoad ≠ none) :
    writeSlotload s = { s with svp := { s.svp with stall := some .loadAgain } } :=
  if_pos (Option.isSome_iff_ne_none.mpr busy)

/-! ## The end of a load -/

/-- The machine with the slot window filled and the load IDLE (R193). -/
def filledWith (w : SlotStatus × List Byte) (s : State) : State :=
  { s with svp := { s.svp with slotLoad := none, slotStatus := w.1, slotBytes := w.2 } }

/-- The end of a load fills the window, and then what waited for it goes on (R192 to R194). -/
theorem exec_slotLoadEnd (e : ReadEnding) (awaits : Awaits .slotLoad s) (load : s.svp.slotLoad = some n) :
    exec (.slotLoadEnd e) s =
      .next (releaseLoadStall
        (filledWith (windowOf s n (ReadEnding.ending e)) (endTransaction (ReadEnding.ending e) s))) := by
  refine congrArg _ ((memoryAnswers_of_awaits .slotLoad _ s awaits).trans ?_)
  cases e <;> simp only [endingConsequence, slotLoadEnded, endTransaction, ReadEnding.ending, raise_svp, load] <;> rfl

/-- The status and bytes of a read that is done (R193). -/
theorem windowOf_done (cells : Beats) :
    windowOf s n (.done cells) =
      (if s.jmg.top ≤ n then .aboveTop
        else if slotValidates (journalBase s.straps) (bytesOfCells (takeBeats 4 cells)) = true then .valid
        else .invalid,
        bytesOfCells (takeBeats 4 cells)) := by
  simp only [windowOf]
  split_ifs <;> rfl

/-! ## What waited for the load -/

/-- A state that holds SCL for nothing is left as it is. -/
theorem releaseLoadStall_none (free : s.svp.stall = none) : releaseLoadStall s = s := by
  rw [releaseLoadStall, free]

theorem releaseLoadStall_again (again : s.svp.stall = some .loadAgain) :
    releaseLoadStall s = beginSlotLoad { s with svp := { s.svp with stall := none } } := by
  rw [releaseLoadStall, again]

/-- A byte of the slot window that waited for the load is sent from the window as it stands (R194). -/
theorem releaseLoadStall_byte {row : RegRow} (byte : s.svp.stall = some (.slotByte ack))
    (here : currentRow s = some row) (slot : row.reg = .slotstat ∨ row.reg = .slotdata)
    (index : s.svp.index = .index x) :
    releaseLoadStall s =
      sentByte ack ((regBytes s row.reg).getD (x.toNat - row.index) 0)
        { s with svp := { s.svp with stall := none } } := by
  have here' : currentRow { s with svp := { s.svp with stall := none } } = some row := here
  rw [releaseLoadStall, byte]
  dsimp only
  rw [sendByte_live ack here' (slotWindow_not_snapshotted here' slot), offset_eq (by exact index)]
  rcases slot with reg | reg <;>
  · rw [reg]
    rfl

/-- The machine with SCL released, a byte sent, and the index one further (R185, R194). -/
def sentAt (ack : Bool) (x : BitVec 6) (b : Byte) (s : State) : State :=
  { s with
    svp :=
      { s.svp with
        stall := none
        sda := some b
        segment := if ack = true then .reading else .ignored
        index := .index (x + 1) } }

theorem sentByte_eq_sentAt (b : Byte) (index : s.svp.index = .index x) (inside : x ≠ 63) :
    sentByte ack b { s with svp := { s.svp with stall := none } } = sentAt ack x b s := by
  simp only [sentByte, sentAt, index, RegIndex.next, if_neg inside]

section
variable (byte : s.svp.stall = some (.slotByte ack)) (page : s.svp.page = 2) (index : s.svp.index = .index x)
include byte page index

/-- The byte of SLOTSTAT that waited is the status of the window (R194). -/
theorem releaseLoadStall_slotstat (at_ : x = 0x0F) :
    releaseLoadStall s = sentAt ack x (BitVec.ofNat 8 (SlotStatus.code s.svp.slotStatus)) s := by
  subst at_
  have here : currentRow s = some ⟨some 2, 0x0F, .slotstat, 1⟩ :=
    currentRow_of_mem index (by decide) (by rw [page]; decide)
  rw [releaseLoadStall_byte byte here (.inl rfl) index, sentByte_eq_sentAt _ index (by decide)]
  rfl

/-- The byte of SLOTDATA that waited is that of the window (R194). -/
theorem releaseLoadStall_slotdata (first : 0x10 ≤ x.toNat) (last : x.toNat < 0x20) :
    releaseLoadStall s = sentAt ack x (s.svp.slotBytes.getD (x.toNat - 0x10) 0) s := by
  have here : currentRow s = some ⟨some 2, 0x10, .slotdata, 16⟩ :=
    currentRow_of_mem index (by decide) ((holds_iff _ _ _).mpr ⟨.inr (by rw [page]; rfl), first, last⟩)
  have inside : x ≠ 63 := by rintro rfl; exact absurd last (by decide)
  rw [releaseLoadStall_byte byte here (.inr rfl) index, sentByte_eq_sentAt _ index inside]
  rfl

end

/-- Settles O51: SLOTLOAD by `slotload_writes`, and the end of a load by the window it fills (`exec_slotLoadEnd`) and
what SCL was held for. -/
theorem slotLoadFillsTheWindow : Obligations.SlotLoadFillsTheWindow := by
  refine ⟨fun s b h => ⟨fun idle => ?_, fun busy => ?_⟩, fun s n cells awaits load => ?_⟩
  · rw [slotload_writes b h, writeSlotload_idle (by exact idle)]
    rfl
  · rw [slotload_writes b h, writeSlotload_busy (by exact busy)]
    rfl
  · intro bs valid filled failed
    have done : exec (.slotLoadEnd (.done cells)) s = .next (releaseLoadStall filled) := by
      rw [exec_slotLoadEnd _ awaits load, ReadEnding.ending, windowOf_done]
      rfl
    have error : exec (.slotLoadEnd .error) s = .next (releaseLoadStall failed) := exec_slotLoadEnd _ awaits load
    rw [done, error]
    refine ⟨fun free => ?_, fun again => ?_, fun ack x byte page index => ⟨fun at_ => ?_, fun first last => ?_⟩⟩
    · exact ⟨congrArg _ (releaseLoadStall_none free), congrArg _ (releaseLoadStall_none free)⟩
    · exact ⟨congrArg _ (releaseLoadStall_again again), congrArg _ (releaseLoadStall_again again)⟩
    · have status : (BitVec.ofNat 8 (SlotStatus.code filled.svp.slotStatus) : Byte) =
          if s.jmg.top ≤ n then 3 else if valid then 1 else 2 := by
        dsimp only [filled]
        split_ifs <;> rfl
      rw [releaseLoadStall_slotstat (s := filled) byte page index at_,
        releaseLoadStall_slotstat (s := failed) byte page index at_, status]
      exact ⟨rfl, rfl⟩
    · have zero : (List.replicate 16 (0 : Byte)).getD (x.toNat - 0x10) 0 = 0 := by
        rw [List.getD_replicate]
        omega
      rw [releaseLoadStall_slotdata (s := filled) byte page index first last,
        releaseLoadStall_slotdata (s := failed) byte page index first last]
      exact ⟨rfl, congrArg (fun b => Host.Outcome.next (sentAt ack x b failed)) zero⟩

end Sys2Proof.SlotWindow
end

section
/-! PROOF. The two-wire bus: addresses, the index byte and STOP, data bytes at the register index, and the selection of
a page (R184 to R187, R189, R190, R196). -/

namespace Sys2Proof.RegisterIndex

set_option Elab.async false

open Sys2Proof.Machine Sys2Proof.Safety Sys2Proof.Laws
open Sys2Proof.AlertsAndCounters (dataByte_dormant)
open Sys2Proof.HostJudgement (startWake_eq)
open Sys2Proof.RegionCommit (toNat_append_byte)
open Sys2Proof.RegisterReads (rowAt_of_currentRow holds_iff pageRow)
open Sys2Proof.ServiceWrites (lowByte_staged LowByte highByte_taken advanceIndex_judged commandOf_eq_none)

variable {s : State} {row : RegRow} {b : Byte}

/-! ## Addresses, the index byte and STOP -/

theorem eq_serviceAddress_iff (st : Straps) (a : BitVec 7) :
    a = serviceAddress st ↔ a.toNat = 0x2C + st.sa.toNat := by
  have small := st.sa.isLt
  rw [serviceAddress, ← BitVec.toNat_inj, BitVec.toNat_ofNat, Nat.mod_eq_of_lt (by omega)]

/-- The machine with a segment of the addressed transaction begun (R184). -/
def addressed (d : Dir) (s : State) : State :=
  { s with
    svp :=
      { s.svp with
        segment := (match d with | .write => .awaitIndex | .read => .reading)
        ack := true
        sda := none } }

section
variable (notHeld : s.resetHeld = false) (free : s.svp.stall = none)
include notHeld free

theorem busHeard_of_free : busHeard s = true := by simp [busHeard, notHeld, free]

theorem stopCondition_eq :
    stopCondition s =
      { s with svp := { s.svp with segment := .ignored, staging := [], snapshots := [], sda := none } } :=
  if_pos (busHeard_of_free notHeld free)

theorem addressByte_other {a : BitVec 7} (d : Dir) (other : a ≠ serviceAddress s.straps) :
    addressByte a d s = { s with svp := { s.svp with segment := .ignored, ack := false, sda := none } } :=
  (if_neg (by simp [busHeard_of_free notHeld free])).trans (if_neg other)

theorem addressByte_matches {a : BitVec 7} (d : Dir) (same : a = serviceAddress s.straps) :
    addressByte a d s =
      if s.ckc.state = .dormant then
        { startWake (addressed d s) with
          svp := { (startWake (addressed d s)).svp with stall := some .wakeAddress } }
      else addressed d s :=
  (if_neg (by simp [busHeard_of_free notHeld free])).trans (if_pos same)

theorem indexByte_sets (b : Byte) (awaits : s.svp.segment = .awaitIndex) :
    indexByte b s =
      { s with
        svp :=
          { s.svp with
            index := if b.toNat < 64 then .index (BitVec.ofNat 6 b.toNat) else .past
            segment := .writing
            ack := true } } :=
  if_pos (by simp [busHeard_of_free notHeld free, awaits])

end

/-! ## A data byte at the register index -/

theorem writeAtIndex_past (past : s.svp.index = .past) : writeAtIndex b s = s := by rw [writeAtIndex, past]

/-- Where no register stands, a data byte reads READ_ONLY (R185). -/
theorem writeAtIndex_vacant (vacant : currentRow s = none) (inside : s.svp.index ≠ .past) :
    writeAtIndex b s = setStat .readOnly s := by
  cases index : s.svp.index with
  | past => exact absurd index inside
  | index i =>
    rw [writeAtIndex, index]
    dsimp only
    rw [vacant]

theorem writeAtIndex_row (here : currentRow s = some row) :
    writeAtIndex b s = writeRegByte row.reg row.bytes (currentOffset s row) b s := by
  obtain ⟨i, index, -⟩ := rowAt_of_currentRow here
  rw [writeAtIndex, index]
  dsimp only
  rw [here]

/-- A register that is not written to reads READ_ONLY (R189). -/
theorem writeAtIndex_readOnly (here : currentRow s = some row) (fixed : isWritable row.reg = false) :
    writeAtIndex b s = setStat .readOnly s := by
  rw [writeAtIndex_row here]
  exact if_pos (by simp [fixed])

/-- REGISTER_WRITE outside DORMANT writes at the register index (R185). -/
theorem registerWrite_heard (b : Byte) (hears : Hears s) (writing : s.svp.segment = .writing) :
    exec (.registerWrite b) s = .next (advanceIndex (writeAtIndex b (setAck true s))) :=
  congrArg _ (dataByte_heard s b hears writing)

/-! ## REGISTER_WRITE is the row of its register -/

/-- A data byte at one of the registers of a row is that row's event. -/
theorem registerWrite_eq_at {r : Reg} {rs : List Reg} (b : Byte) (here : currentReg s = some r)
    (mem : rs.contains r = true) : exec (.registerWrite b) s = .next (dataByteAt rs b s) := by
  have reached : reaches rs s = true := by rw [reaches, here]; exact mem
  show Host.Outcome.next (dataByte b s) = _
  rw [dataByteAt, if_pos reached]

theorem registerWrite_writes {r : Reg} {p : BitVec 2} {x : BitVec 6} (b : Byte) (h : WritesAt p x s)
    (at_ : rowAt p.toNat x.toNat = some row) (reg : row.reg = r) :
    exec (.registerWrite b) s = .next (dataByteAt [r] b s) :=
  registerWrite_eq_at b (by rw [currentReg, currentRow_of_writesAt s p x row h at_, Option.map_some, reg]) (by simp)

/-- The rows of a data byte that are named for a register, each with its register. -/
def namedRows (b : Byte) : List (Reg × Instr) :=
  [(.page, .pageWrite b), (.highwater, .highwaterWrite b), (.strobecfg, .strobecfgWrite b),
    (.strobetag, .strobetagWrite b), (.ticksel, .tickselWrite b), (.timercfg, .timercfgWrite b),
    (.warnat, .warnatWrite b), (.expireat, .expireatWrite b), (.memwatch, .memwatchWrite b),
    (.regidx, .regidxWrite b), (.regclass, .regionStagingWrite b), (.regbase, .regionStagingWrite b),
    (.reglimit, .regionStagingWrite b), (.regcommit, .regcommit b), (.slotidx, .slotidxWrite b),
    (.slotload, .slotload b), (.frameidx, .frameidxWrite b), (.flags, .flagsWrite b), (.masks, .masksWrite b),
    (.ctrsel, .ctrselWrite b)]

/-- Each row named for a register is a data byte at registers that it is named for. -/
theorem namedRows_dataByteAt (b : Byte) (s : State) :
    ∀ x ∈ namedRows b, ∃ rs : List Reg, rs.contains x.1 = true ∧ exec x.2 s = .next (dataByteAt rs b s) :=
  List.forall_iff_forall_mem.mp
    ⟨⟨[.page], rfl, rfl⟩, ⟨[.highwater], rfl, rfl⟩, ⟨[.strobecfg], rfl, rfl⟩, ⟨[.strobetag], rfl, rfl⟩,
      ⟨[.ticksel], rfl, rfl⟩, ⟨[.timercfg], rfl, rfl⟩, ⟨[.warnat], rfl, rfl⟩, ⟨[.expireat], rfl, rfl⟩,
      ⟨[.memwatch], rfl, rfl⟩, ⟨[.regidx], rfl, rfl⟩, ⟨[.regclass, .regbase, .reglimit], rfl, rfl⟩,
      ⟨[.regclass, .regbase, .reglimit], rfl, rfl⟩, ⟨[.regclass, .regbase, .reglimit], rfl, rfl⟩,
      ⟨[.regcommit], rfl, rfl⟩, ⟨[.slotidx], rfl, rfl⟩, ⟨[.slotload], rfl, rfl⟩, ⟨[.frameidx], rfl, rfl⟩,
      ⟨[.flags], rfl, rfl⟩, ⟨[.masks], rfl, rfl⟩, ⟨[.ctrsel], rfl, rfl⟩⟩

/-- The row of a command's code (R190). -/
def codeRow : CmdCode → Instr
  | .mark => .cmdMark
  | .keep => .cmdKeep
  | .undo => .cmdUndo
  | .undoAll => .cmdUndoAll
  | .undoTo => .cmdUndoTo
  | .resume => .resume
  | .skip => .skip
  | .abandon => .abandon
  | .sync => .sync
  | .format => .format
  | .quiesce => .quiesce
  | .restart => .restart
  | .flush => .flush
  | .clearCounts => .clearCounts
  | .popRefusal => .popRefusal

theorem exec_codeRow (c : CmdCode) (s : State) : exec (codeRow c) s = .next (dataByteAt [.cmd] (CmdCode.byte c) s) := by
  cases c <;> rfl

theorem exec_unknownCommand (s : State) (unnamed : (Instr.unknownCommand b).wellFormed = true) :
    exec (.unknownCommand b) s = .next (dataByteAt [.cmd] b s) :=
  congrArg _ (if_pos (commandOf_eq_none unnamed))

/-! ## CMDTAG and CMDFRAME -/

/-- The value of two bytes is the high byte before the low one. -/
theorem ofNat_eq_append (hi lo : Byte) : (BitVec.ofNat 16 (lo.toNat + 256 * hi.toNat) : Word16) = hi ++ lo := by
  refine BitVec.eq_of_toNat_eq ?_
  rw [toNat_append_byte, BitVec.toNat_ofNat]
  have := hi.isLt
  have := lo.isLt
  omega

/-- Settles O46: the segment's bytes by their equations, and a data byte by the row that it is. -/
theorem segmentsMoveTheRegisterIndex : Obligations.SegmentsMoveTheRegisterIndex := by
  refine ⟨fun s a d b notHeld free => ?_, fun s b hears writing => ?_, fun s b r i here listed => ?_,
    fun s b i here listed => ?_, fun s b notHeld free writing dormant => ?_⟩
  · have same := eq_serviceAddress_iff s.straps a
    refine ⟨fun at_ awake => ?_, fun at_ dormant => ?_, fun other => ?_, fun awaits below => ?_, fun awaits above => ?_,
      congrArg _ (stopCondition_eq notHeld free)⟩
    · exact congrArg _ ((addressByte_matches notHeld free d (same.mpr at_)).trans (if_neg awake))
    · refine congrArg _ ((addressByte_matches notHeld free d (same.mpr at_)).trans ((if_pos dormant).trans ?_))
      rw [startWake_eq]
      rfl
    · exact congrArg _ (addressByte_other notHeld free d (mt same.mp other))
    · refine congrArg _ ((indexByte_sets notHeld free b awaits).trans ?_)
      rw [if_pos below]
    · refine congrArg _ ((indexByte_sets notHeld free b awaits).trans ?_)
      rw [if_neg (Nat.not_lt.mpr above)]
  · refine ⟨fun row here fixed => ?_, fun vacant inside => ?_, fun past => ?_, fun lo => ?_, fun x r listed h => ?_⟩
    · rw [registerWrite_heard b hears writing, writeAtIndex_readOnly (s := setAck true s) here fixed]
      rfl
    · rw [registerWrite_heard b hears writing, writeAtIndex_vacant (s := setAck true s) vacant inside]
      rfl
    · rw [registerWrite_heard b hears writing, writeAtIndex_past (s := setAck true s) past]
      simp only [advanceIndex, setAck, past, RegIndex.next]
    · intro low
      refine ⟨fun h lows => ?_, fun h lows => ?_⟩ <;>
      · rw [registerWrite_writes b h rfl rfl, highByte_taken b lo h rfl rfl rfl lows rfl, ← ofNat_eq_append]
        rfl
    · simp only [List.mem_cons, Prod.mk.injEq, List.not_mem_nil, or_false] at listed
      rcases listed with ⟨rfl, rfl⟩ | ⟨rfl, rfl⟩ <;>
      exact (registerWrite_writes b h rfl rfl).trans (congrArg _ (lowByte_staged b h rfl (by decide) rfl))
  · obtain ⟨rs, mem, is⟩ := namedRows_dataByteAt b s (r, i) listed
    exact (registerWrite_eq_at b here mem).trans is.symm
  · have atCmd : exec (.registerWrite b) s = .next (dataByteAt [.cmd] b s) := registerWrite_eq_at b here rfl
    rcases listed with named | ⟨rfl, unnamed⟩
    · have mem : (b, i) ∈ allCommands.map fun c => (CmdCode.byte c, codeRow c) := named
      obtain ⟨c, -, is⟩ := List.mem_map.mp mem
      obtain ⟨rfl, rfl⟩ := Prod.mk.inj is
      exact atCmd.trans (exec_codeRow c s).symm
    · exact atCmd.trans (exec_unknownCommand s unnamed).symm
  · exact congrArg _ (dataByte_dormant b notHeld free writing dormant)

/-! ## PAGE -/

theorem unstage_eq_self {r : Reg} {st : List StagedByte} (none_ : ∀ q ∈ st, q.reg ≠ r) : unstage r st = st :=
  List.filter_eq_self.mpr fun q mem => decide_eq_true (none_ q mem)

/-- PAGE stands at `$00` of every page (R186). -/
theorem rowAt_page (p : Nat) : rowAt p 0 = some pageRow := rfl

/-- A data byte at PAGE selects the page that it names, if it names one (R186). -/
theorem pageWrite_selects {p : BitVec 2} (b : Byte) (h : WritesAt p 0 s) :
    exec (.pageWrite b) s =
      .next (if b.toNat < 4 then
        { s with
          svp :=
            { s.svp with
              ack := true
              staging := unstage .page s.svp.staging
              stat := .ok
              page := BitVec.ofNat 2 b.toNat
              index := .index 1 } }
      else
        { s with
          svp :=
            { s.svp with
              ack := true, staging := unstage .page s.svp.staging, stat := .badValue, index := .index 1 } }) := by
  obtain ⟨-, -, -, index⟩ := id h
  refine congrArg _ ((dataByteAt_one s b p 0 [.page] .page h (rowAt_page p.toNat) rfl rfl).trans ?_)
  rw [takeValue, advanceIndex_judged decide_eq_true_iff]
  simp only [advanceIndex, setStat, index]
  rfl

/-- Every register but PAGE stands on the selected page alone (R186). -/
theorem page_of_rowAt {p i : Nat} (above : i ≠ 0) (at_ : rowAt p i = some row) : row.page = some p := by
  have every : ∀ row ∈ registerMap, row.page = none → row = pageRow := by decide
  have holds : RegRow.holds row p i = true := List.find?_some (p := fun r => RegRow.holds r p i) at_
  obtain ⟨page, -, last⟩ := (holds_iff row p i).mp holds
  refine page.resolve_left fun none_ => above ?_
  rw [every row (List.mem_of_find?_eq_some at_) none_] at last
  exact Nat.lt_one_iff.mp last

/-- Settles O47: the write by `pageWrite_selects`, the STOP by `stopCondition_eq`, and the map by `page_of_rowAt`. -/
theorem pageWriteSelectsThePage : Obligations.PageWriteSelectsThePage := by
  intro s b
  refine ⟨fun p h none_ => ?_, fun notHeld free => congrArg _ (stopCondition_eq notHeld free), ?_, fun zero => ?_,
    fun i row above index here => ?_⟩
  · rw [pageWrite_selects b h, unstage_eq_self none_]
    split_ifs <;> rfl
  · exact congrArg (fun v => [v]) (BitVec.ofNat_toNat 8 s.svp.page)
  · rw [currentReg, currentRow, zero]
    exact congrArg (Option.map RegRow.reg) (rowAt_page s.svp.page.toNat)
  · obtain ⟨j, at_j, found⟩ := rowAt_of_currentRow here
    obtain rfl : i = j := RegIndex.index.inj (index.symm.trans at_j)
    exact page_of_rowAt (fun zero => above (BitVec.eq_of_toNat_eq zero)) found

end Sys2Proof.RegisterIndex
end

section
/-! PROOF. The order of the machine's commands: a step gives the part the command that has waited longest (the model's
queue, log 28). With none waiting, `RefclkTime.step_of_idle` says what a step is. -/

namespace Sys2Proof.CommandOrder

set_option Elab.async false

open Sys2Proof.Machine

theorem step_of_waiting {s : State} {c : Instr} {rest : List Instr} (waiting : s.pending = c :: rest) :
    step s = exec c { s with pending := rest } := by
  rw [step, waiting]

/-- Settles O1, by `step_of_waiting`. -/
theorem stepTakesFrontCommand : Obligations.StepTakesFrontCommand :=
  fun _ _ _ waiting => step_of_waiting waiting

end Sys2Proof.CommandOrder
end
